-- ==== Sys2Proof/Word.lean ====
section
/-! DEFINITION. The two word sizes of the machine (00_scope.md R9): a byte (`u8`) and a 16-bit word (`u16`). -/

namespace Sys2Proof

/-- `u8`: a data register, a byte of memory (R9, R11). -/
abbrev Byte := BitVec 8

/-- `u16`: a register pair, an address, a port (R9, R11). -/
abbrev Word := BitVec 16

end Sys2Proof
end

