-- ==== Sys2Proof/Machine/Bits.lean ====
section
/-! DEFINITION. Bit-field, sign-extension and byte-order helpers (00_scope.md R11, R12, R16; 10_state.md R117). -/

namespace Sys2Proof.Machine

/-- `cat(h, l) = h * 256 + l` (R12). -/
def cat (hi lo : Byte) : Word := hi ++ lo

/-- The high byte of a word, `v[15:8]` (R11). -/
def hi8 (v : Word) : Byte := v.extractLsb' 8 8

/-- The low byte of a word, `v[7:0]` (R11). -/
def lo8 (v : Word) : Byte := v.extractLsb' 0 8

/-- `sext_8` as a word: address arithmetic is modulo 65536 (R12). -/
def sext (d : Byte) : Word := d.signExtend 16

/-- `parity(v) = 1` iff `v` has an even number of 1 bits (R16). -/
def parity (v : Byte) : Bool :=
  !(v.getLsbD 0 ^^ v.getLsbD 1 ^^ v.getLsbD 2 ^^ v.getLsbD 3 ^^ v.getLsbD 4 ^^ v.getLsbD 5 ^^ v.getLsbD 6 ^^ v.getLsbD 7)

/-- A bit as a byte, 0x00 or 0x01. -/
def bit (b : Bool) : Byte := (BitVec.ofBool b).setWidth 8

/-- `R` after `m` M1 cycles: bits 6..0 advance modulo 128, bit 7 is kept (R112, R117). -/
def bumpR (m : Nat) (r : Byte) : Byte := (r &&& 0x80#8) ||| ((r + BitVec.ofNat 8 m) &&& 0x7F#8)

end Sys2Proof.Machine
end

