-- ==== Sys2Proof/Machine/Flags.lean ====
section
/-!
DEFINITION. The flag byte (00_scope.md R11, 10_state.md R108) and every flag computation of the spec: 8-bit arithmetic
(R600 to R606), 16-bit arithmetic (R820, R821), rotates (R900 to R905), bit test (R1000), block transfer and search (R521,
R522), block I/O (R1213), accumulator and flag operations (R700 to R704), `LD A,I` (R415) and `IN r,(C)` (R1202). Arithmetic
is exact on integers and narrowed at the end (R12).
-/

namespace Sys2Proof.Machine

/-- The eight flags of `F` (R108). -/
structure Flags where
  s : Bool
  z : Bool
  y : Bool
  h : Bool
  x : Bool
  pv : Bool
  n : Bool
  c : Bool
deriving DecidableEq, Repr

/-- The flags of a byte: S Z Y H X P/V N C from bit 7 down (R11). -/
def Flags.ofByte (f : Byte) : Flags :=
  { s := f.getLsbD 7, z := f.getLsbD 6, y := f.getLsbD 5, h := f.getLsbD 4,
    x := f.getLsbD 3, pv := f.getLsbD 2, n := f.getLsbD 1, c := f.getLsbD 0 }

/-- The byte of the flags (R11). -/
def Flags.toByte (f : Flags) : Byte :=
  BitVec.ofBool f.s ++ BitVec.ofBool f.z ++ BitVec.ofBool f.y ++ BitVec.ofBool f.h ++
  BitVec.ofBool f.x ++ BitVec.ofBool f.pv ++ BitVec.ofBool f.n ++ BitVec.ofBool f.c

/-- The flags `f` with S, Z (`sz(v)`) and X, Y (`xy(v)`) from the byte `v` (R16). -/
def Flags.szxy (v : Byte) (f : Flags) : Flags :=
  { f with s := v.getLsbD 7, z := v == 0, y := v.getLsbD 5, x := v.getLsbD 3 }

/-- The flags `f` with X and Y from the byte `v` (R16). -/
def Flags.xy (v : Byte) (f : Flags) : Flags := { f with y := v.getLsbD 5, x := v.getLsbD 3 }

/-- Signed overflow of an addition with result `r` (R16). -/
def addOverflow {w : Nat} (a b r : BitVec w) : Bool := (~~~(a ^^^ b) &&& (a ^^^ r)).getLsbD (w - 1)

/-- Signed overflow of a subtraction with result `r` (R16). -/
def subOverflow {w : Nat} (a b r : BitVec w) : Bool := ((a ^^^ b) &&& (a ^^^ r)).getLsbD (w - 1)

/-! ## 8-bit arithmetic -/

/-- `Add8(a, b, c)` (R600). -/
def add8 (a b : Byte) (c : Bool) : Byte × Flags :=
  let sum := a.toNat + b.toNat + c.toNat
  let r := BitVec.ofNat 8 sum
  (r, { s := r.getLsbD 7, z := r == 0, y := r.getLsbD 5, x := r.getLsbD 3,
        h := decide (a.toNat % 16 + b.toNat % 16 + c.toNat > 15),
        pv := addOverflow a b r, n := false, c := decide (sum > 255) })

/-- `Sub8(a, b, c)` (R601). -/
def sub8 (a b : Byte) (c : Bool) : Byte × Flags :=
  let diff : Int := (a.toNat : Int) - b.toNat - c.toNat
  let r := BitVec.ofInt 8 diff
  (r, { s := r.getLsbD 7, z := r == 0, y := r.getLsbD 5, x := r.getLsbD 3,
        h := decide (((a.toNat % 16 : Nat) : Int) - ((b.toNat % 16 : Nat) : Int) - c.toNat < 0),
        pv := subOverflow a b r, n := true, c := decide (diff < 0) })

/-- `Logic(r, h)` (R602). -/
def logic (r : Byte) (h : Bool) : Byte × Flags :=
  (r, { s := r.getLsbD 7, z := r == 0, y := r.getLsbD 5, x := r.getLsbD 3,
        h := h, pv := parity r, n := false, c := false })

/-- `Inc8(v)`: C unchanged (R604). -/
def inc8 (old : Flags) (v : Byte) : Byte × Flags :=
  let r := v + 1
  (r, { old with s := r.getLsbD 7, z := r == 0, y := r.getLsbD 5, x := r.getLsbD 3,
                 h := decide (v.toNat % 16 = 15), pv := r == 0x80#8, n := false })

/-- `Dec8(v)`: C unchanged (R605). -/
def dec8 (old : Flags) (v : Byte) : Byte × Flags :=
  let r := v - 1
  (r, { old with s := r.getLsbD 7, z := r == 0, y := r.getLsbD 5, x := r.getLsbD 3,
                 h := decide (v.toNat % 16 = 0), pv := r == 0x7F#8, n := true })

/-- `Compare8(a, b)`: the flags of `Sub8(a, b, 0)` with X and Y from the operand `b` (R606). -/
def compare8 (a b : Byte) : Flags := (sub8 a b false).2.xy b

/-! ## Accumulator and flag operations -/

/-- `DAA` on `A = v` (R700): N unchanged. -/
def daa (old : Flags) (v : Byte) : Byte × Flags :=
  let a := v.toNat
  let fixLow := old.h || decide (a % 16 > 9)
  let fixHigh := old.c || decide (a > 0x99)
  let corr : Nat := (if fixLow then 0x06 else 0) ||| (if fixHigh then 0x60 else 0)
  let r : Byte := if old.n then BitVec.ofInt 8 ((a : Int) - (corr : Int)) else BitVec.ofNat 8 (a + corr)
  let h := if old.n then old.h && decide (a % 16 < 6) else decide (a % 16 > 9)
  (r, { old with s := r.getLsbD 7, z := r == 0, y := r.getLsbD 5, x := r.getLsbD 3,
                 h := h, pv := parity r, c := fixHigh })

/-- `CPL` on `A = v` (R701): S, Z, P/V, C unchanged. -/
def cpl (old : Flags) (v : Byte) : Byte × Flags :=
  let r := ~~~v
  (r, { old with h := true, n := true, y := r.getLsbD 5, x := r.getLsbD 3 })

/-- `CCF` with `A = v` (R703): S, Z, P/V unchanged. -/
def ccf (old : Flags) (v : Byte) : Flags :=
  { old with h := old.c, c := !old.c, n := false, y := v.getLsbD 5, x := v.getLsbD 3 }

/-- `SCF` with `A = v` (R704): S, Z, P/V unchanged. -/
def scf (old : Flags) (v : Byte) : Flags :=
  { old with c := true, h := false, n := false, y := v.getLsbD 5, x := v.getLsbD 3 }

/-- The flags of `LD A,I` and `LD A,R` for the byte `v` (R415, R416): C unchanged. -/
def interruptRegFlags (old : Flags) (v : Byte) (iff2 : Bool) : Flags :=
  { old with s := v.getLsbD 7, z := v == 0, y := v.getLsbD 5, h := false, x := v.getLsbD 3, pv := iff2, n := false }

/-! ## 16-bit arithmetic: X and Y from the high byte of the result -/

/-- `Add16(a, b)` (R820): S, Z, P/V unchanged. -/
def add16 (old : Flags) (a b : Word) : Word × Flags :=
  let sum := a.toNat + b.toNat
  let r := BitVec.ofNat 16 sum
  (r, { old with h := decide (a.toNat % 4096 + b.toNat % 4096 ≥ 4096), c := decide (sum ≥ 65536), n := false,
                 y := r.getLsbD 13, x := r.getLsbD 11 })

/-- `Adc16(a, b, c)` (R821). -/
def adc16 (a b : Word) (c : Bool) : Word × Flags :=
  let sum := a.toNat + b.toNat + c.toNat
  let r := BitVec.ofNat 16 sum
  (r, { s := r.getLsbD 15, z := r == 0,
        h := decide (a.toNat % 4096 + b.toNat % 4096 + c.toNat ≥ 4096),
        pv := addOverflow a b r, n := false, c := decide (sum ≥ 65536),
        y := r.getLsbD 13, x := r.getLsbD 11 })

/-- `Sbc16(a, b, c)` (R821). -/
def sbc16 (a b : Word) (c : Bool) : Word × Flags :=
  let diff : Int := (a.toNat : Int) - b.toNat - c.toNat
  let r := BitVec.ofInt 16 diff
  (r, { s := r.getLsbD 15, z := r == 0,
        h := decide (((a.toNat % 4096 : Nat) : Int) - ((b.toNat % 4096 : Nat) : Int) - c.toNat < 0),
        pv := subOverflow a b r, n := true, c := decide (diff < 0),
        y := r.getLsbD 13, x := r.getLsbD 11 })

/-! ## Rotates and shifts -/

/-- The CB-group operations (R307, R905). -/
inductive RotOp where
  | rlc | rrc | rl | rr | sla | sra | sll | srl
deriving DecidableEq, Repr

/-- The result and the bit shifted out of a rotate or shift of `v`, `c` the carry before it (R900 to R905). -/
def shiftBits (o : RotOp) (c : Bool) (v : Byte) : Byte × Bool :=
  match o with
  | .rlc => ((v <<< 1) ||| bit (v.getLsbD 7), v.getLsbD 7)
  | .rrc => ((v >>> 1) ||| (bit (v.getLsbD 0) <<< 7), v.getLsbD 0)
  | .rl  => ((v <<< 1) ||| bit c, v.getLsbD 7)
  | .rr  => ((v >>> 1) ||| (bit c <<< 7), v.getLsbD 0)
  | .sla => (v <<< 1, v.getLsbD 7)
  | .sra => ((v >>> 1) ||| (v &&& 0x80#8), v.getLsbD 0)
  | .sll => ((v <<< 1) ||| 1#8, v.getLsbD 7)
  | .srl => (v >>> 1, v.getLsbD 0)

/-- `Rot(op, v)` (R905): all eight flags. -/
def rot (o : RotOp) (c : Bool) (v : Byte) : Byte × Flags :=
  let r := (shiftBits o c v).1
  (r, { s := r.getLsbD 7, z := r == 0, y := r.getLsbD 5, x := r.getLsbD 3,
        h := false, pv := parity r, n := false, c := (shiftBits o c v).2 })

/-- The accumulator rotates (R900 to R903): S, Z, P/V unchanged. -/
def rotAcc (o : RotOp) (old : Flags) (v : Byte) : Byte × Flags :=
  let r := (shiftBits o old.c v).1
  (r, { old with h := false, n := false, c := (shiftBits o old.c v).2, y := r.getLsbD 5, x := r.getLsbD 3 })

/-- The flags of `RLD` and `RRD` for the new `A` (R940, R941), and of `IN r,(C)` for the byte read (R1202): C unchanged. -/
def signZeroParity (old : Flags) (v : Byte) : Flags :=
  { old with s := v.getLsbD 7, z := v == 0, y := v.getLsbD 5, x := v.getLsbD 3,
             h := false, pv := parity v, n := false }

/-! ## Bit test, block instructions -/

/-- `BitTest(b, v, xysrc)` (R1000): C unchanged. -/
def bitTest (old : Flags) (b : Fin 8) (v xysrc : Byte) : Flags :=
  let z := !v.getLsbD b.val
  { old with z := z, pv := z, s := b == 7 && !z, h := true, n := false,
             y := xysrc.getLsbD 5, x := xysrc.getLsbD 3 }

/-- `TransferFlags(v)` (R521), `a` and `bc` the registers after the decrement: S, Z, C unchanged. -/
def transferFlags (old : Flags) (a v : Byte) (bc : Word) : Flags :=
  let k := v + a
  { old with h := false, n := false, pv := bc != 0, x := k.getLsbD 3, y := k.getLsbD 1 }

/-- `CompareFlags(v)` (R522), `bc` after the decrement: C unchanged. -/
def compareFlags (old : Flags) (a v : Byte) (bc : Word) : Flags :=
  let r := a - v
  let h := decide (a.toNat % 16 < v.toNat % 16)
  let k := r - bit h
  { old with s := r.getLsbD 7, z := r == 0, h := h, pv := bc != 0, n := true, x := k.getLsbD 3, y := k.getLsbD 1 }

/-- `BlockIoFlags(v, k)` (R1213), `b` after the decrement. -/
def blockIoFlags (b v : Byte) (k : Nat) : Flags :=
  { s := b.getLsbD 7, z := b == 0, y := b.getLsbD 5, x := b.getLsbD 3,
    h := decide (k > 255), c := decide (k > 255),
    pv := parity (BitVec.ofNat 8 (k % 8) ^^^ b), n := v.getLsbD 7 }

/-- The flags an iteration that repeats leaves to a draw: X and Y (R523). -/
def drawnXY : Byte := 0x28#8

/-- The flags an iteration of a block I/O instruction that repeats leaves to a draw: Y, H, X and P/V (R523). -/
def drawnXYHP : Byte := 0x3C#8

end Sys2Proof.Machine
end

