-- ==== Sys2Proof/Config.lean ====
section
/-!
DEFINITION. What an implementation fixes (the parameters of 00_scope.md R10) and the free values the spec leaves open
("`draw u8` denotes a value the model leaves free (any value, under no law)", R17).
-/

namespace Sys2Proof.Config

/-- The parameters of R10 that are data. `HOST` is `State.host`; the launch values are an argument of `launch`. -/
structure Params where
  /-- `BIOS_BASE`: the address of BIOS slot 0 (R10, D50). -/
  biosBase : Word
  /-- `BIAS`: relocation bias of the cold-boot image (R10, R1600). -/
  bias : Word
  /-- `BDOS_VECTOR`: the word seeded at 0x0006 (R10, D7). -/
  bdosVector : Word
  /-- `MAX_OPEN_FILES`: the size of the host file-handle pool (R10, D29). -/
  maxOpenFiles : Nat
  /-- `PARTIAL_RECORD_RESULT`: the result of F_READ for a record of 1 to 127 bytes (R10, D27). -/
  partialRecordResult : Byte
  /-- `INTERRUPTS_MODELED`: whether the host ever raises INT or NMI (R10, D10). -/
  interruptsModeled : Bool
deriving DecidableEq, Repr

/-- The defaults of R10. DESIGN CHOICE (log 5), unsafe: `BDOS_VECTOR` is OPEN with no default; 0xFA00 is the value the
spec's examples use (D7). -/
def Params.default : Params :=
  { biosBase := 0xFC00#16, bias := 0xA800#16, bdosVector := 0xFA00#16, maxOpenFiles := 16,
    partialRecordResult := 0x01#8, interruptsModeled := false }

/-- A draw (R17): the value of draw number `k`. No body: nothing can evaluate it. Used for X and Y of `BIT b,(HL)` (R1002),
the drawn flags of a repeating iteration (R523), and bytes the host law leaves open. -/
opaque freeByte : Nat → Byte

/-- What the host answers to a read of a port it holds no answer for: "a host input under no law (a draw)" (R1200), so a
value for each port and draw number. -/
opaque freePort : Word → Nat → Byte

/-- Where the host puts a new file in its listing order (R1300: "the order of `list`" is the host's): draw number `k`. -/
opaque freePlace : Nat → Nat

/-- What the host answers to a read of a file that was deleted while open: "a draw of `Ok`/`Err` and data" (R1343, D45):
`none` is `Err`. -/
opaque staleRead : Nat → Option (List Byte)

/-- What the host answers to a write of a file that was deleted while open (R1343, D45): true is `Err`. -/
opaque staleWrite : Nat → Bool

end Sys2Proof.Config
end

