-- ==== Sys2Proof/Machine/HostEnv.lean ====
section
/-!
DEFINITION. The host environment of 49_cpm_traps.md R1300 as plain data, and its operations. The spec keeps the host
outside its state record (R100) and leaves free what it holds and answers (R1300, D55); here that freedom is the contents
of `HostEnv`, which the host may change between two steps (log 6), and the free values where the data ends.
-/

namespace Sys2Proof.Machine

/-- One item of the console input still to come: a byte, a moment at which no byte is ready yet (log 8), a failing read. -/
inductive ConIn where
  | byte (v : Byte)
  | wait
  | err
deriving DecidableEq, Repr

/-- A regular file of a host directory; a name is a byte string (R1300). -/
structure HostFile where
  name : List Byte
  data : List Byte
deriving DecidableEq, Repr

/-- A host directory, named by one letter, with its files in listing order (R1300). -/
structure HostDir where
  letter : Byte
  files : List HostFile
deriving DecidableEq, Repr

/-- An open file object of the host. `live` is false once the core had the file deleted (D45). -/
structure OpenFile where
  fid : Nat
  letter : Byte
  name : List Byte
  live : Bool
deriving DecidableEq, Repr

/-- An answer the host holds ready for port reads (log 9): the port it answers for, any port where there is none; its byte;
whether it stays for further reads. -/
structure PortAnswer where
  port : Option Word
  value : Byte
  stays : Bool
deriving DecidableEq, Repr

/-- One access to the I/O space as the host sees it (R1200): a read with the byte it answered, or a write. -/
inductive PortAccess where
  | read (port : Word) (v : Byte)
  | write (port : Word) (v : Byte)
deriving DecidableEq, Repr

/-- The host environment (R1300, R1502). -/
structure HostEnv where
  /-- What `con_read` will take, in order; the end of the list is the end of stdin. -/
  stdin : List ConIn
  /-- The bytes written to stdout so far, oldest first. -/
  stdout : List Byte
  /-- For each further call of an operation that can answer `Err` (con_read apart): true is `Err`; past the end, `Ok` (log 7). -/
  fails : List Bool
  /-- The host directories. -/
  dirs : List HostDir
  /-- The open file objects. -/
  opened : List OpenFile
  /-- The next `fid` (log 15). -/
  nextFid : Nat
  /-- The answers held for port reads; a read takes the first one for its port, or a free value (log 9). -/
  portIn : List PortAnswer
  /-- The port accesses so far, reads and writes in program order, oldest first (R1200). -/
  portLog : List PortAccess
  /-- NMI pending (R1502). -/
  nmiPending : Bool
  /-- INT: the bus byte while it is asserted (R1502). -/
  intLine : Option Byte
  /-- How many free values have been drawn (log 11). -/
  draws : Nat
deriving DecidableEq, Repr

namespace HostEnv

/-- A host with nothing in it. -/
def empty : HostEnv :=
  { stdin := [], stdout := [], fails := [], dirs := [], opened := [], nextFid := 0, portIn := [], portLog := [],
    nmiPending := false, intLine := none, draws := 0 }

/-- A free byte (R17: `draw u8`). -/
def draw (h : HostEnv) : Byte × HostEnv := (Config.freeByte h.draws, { h with draws := h.draws + 1 })

/-- Whether the next fallible call answers `Err` (log 7). -/
def failing (h : HostEnv) : Bool × HostEnv :=
  match h.fails with
  | [] => (false, h)
  | b :: bs => (b, { h with fails := bs })

/-! ## Console (R1300, R1301) -/

/-- What a read takes from the console input: it waits through the moments with nothing ready; `none` is `Eof` or `Err`,
which R1301 treats alike. -/
def takeByte : List ConIn → Option Byte × List ConIn
  | [] => (none, [])
  | .wait :: r => takeByte r
  | .err :: r => (none, r)
  | .byte v :: r => (some v, r)

/-- `Host.con_read()`: `none` is `Eof` or `Err`. -/
def conRead (h : HostEnv) : Option Byte × HostEnv :=
  let (v, r) := takeByte h.stdin
  (v, { h with stdin := r })

/-- `Host.con_ready()`: no byte is consumed; a poll that finds nothing ready uses up that moment (log 8). -/
def conReady (h : HostEnv) : Bool × HostEnv :=
  match h.stdin with
  | .byte _ :: _ => (true, h)
  | .wait :: r => (false, { h with stdin := r })
  | _ => (false, h)

/-- `Host.con_write(v)`: false is `Err`, which writes nothing. -/
def conWrite (v : Byte) (h : HostEnv) : Bool × HostEnv :=
  let (bad, h) := h.failing
  if bad then (false, h) else (true, { h with stdout := h.stdout ++ [v] })

/-- `con_write` of each byte in order, up to the first `Err`: false if there was one. -/
def conWriteAll : List Byte → HostEnv → Bool × HostEnv
  | [], h => (true, h)
  | v :: vs, h =>
    let (ok, h) := h.conWrite v
    if ok then conWriteAll vs h else (false, h)

/-- `con_read` up to and with the first LF or CR (R1333): the bytes before it, or `none` on `Eof` or `Err`. -/
def takeLine : List ConIn → Option (List Byte) × List ConIn
  | [] => (none, [])
  | .wait :: r => takeLine r
  | .err :: r => (none, r)
  | .byte v :: r =>
    if v = 0x0A#8 ∨ v = 0x0D#8 then (some [], r)
    else
      let (line, rest) := takeLine r
      (line.map (v :: ·), rest)

/-- A line from the console (R1333). -/
def conReadLine (h : HostEnv) : Option (List Byte) × HostEnv :=
  let (line, r) := takeLine h.stdin
  (line, { h with stdin := r })

/-! ## Files (R1300). A lookup takes the first entry with the name asked for (log 6). -/

/-- The directory named by `letter`. -/
def dir? (h : HostEnv) (letter : Byte) : Option HostDir := h.dirs.find? (fun d => d.letter == letter)

/-- The file `name` of directory `letter`. -/
def file? (h : HostEnv) (letter : Byte) (name : List Byte) : Option HostFile :=
  (h.dir? letter).bind fun d => d.files.find? (fun f => f.name == name)

/-- `Host.dir_exists(letter)`. -/
def dirExists (h : HostEnv) (letter : Byte) : Bool := (h.dir? letter).isSome

/-- `Host.exists(letter, name)`. -/
def fileExists (h : HostEnv) (letter : Byte) (name : List Byte) : Bool := (h.file? letter name).isSome

/-- `f` on the first element that satisfies `p`. -/
def updateFirst {α : Type} (p : α → Bool) (f : α → α) : List α → List α
  | [] => []
  | x :: xs => if p x then f x :: xs else x :: updateFirst p f xs

/-- The host with the files of directory `letter` changed by `f`. -/
def mapFiles (letter : Byte) (f : List HostFile → List HostFile) (h : HostEnv) : HostEnv :=
  { h with dirs := updateFirst (fun d => d.letter == letter) (fun d => { d with files := f d.files }) h.dirs }

/-- A new open file object on a file that exists, with a `fid` of its own (log 15). -/
def opening (letter : Byte) (name : List Byte) (h : HostEnv) : Nat × HostEnv :=
  (h.nextFid, { h with opened := h.opened ++ [{ fid := h.nextFid, letter := letter, name := name, live := true }],
                       nextFid := h.nextFid + 1 })

/-- `Host.open(letter, name)`: `none` is `Err`. -/
def openFile (letter : Byte) (name : List Byte) (h : HostEnv) : Option Nat × HostEnv :=
  let (bad, h) := h.failing
  if bad || !h.fileExists letter name then (none, h)
  else
    let (fid, h) := h.opening letter name
    (some fid, h)

/-- `xs` with `x` put in at place `k`. -/
def insertAt {α : Type} (x : α) : Nat → List α → List α
  | 0, xs => x :: xs
  | _ + 1, [] => [x]
  | k + 1, y :: ys => y :: insertAt x k ys

/-- `Host.create(letter, name)`: `none` is `Err`. The new file's place in the listing is free (log 13); a missing directory
and a name that exists are `Err` (log 15). -/
def createFile (letter : Byte) (name : List Byte) (h : HostEnv) : Option Nat × HostEnv :=
  let (bad, h) := h.failing
  if bad || !h.dirExists letter || h.fileExists letter name then (none, h)
  else
    let place := Config.freePlace h.draws
    let h := { h with draws := h.draws + 1 }
    let h := h.mapFiles letter (insertAt { name := name, data := [] } place)
    let (fid, h) := h.opening letter name
    (some fid, h)

/-- `Host.close(fid)`: false is `Err`, which leaves the file open (D56). DESIGN CHOICE (log 15): the spec does not say what a
close of a `fid` that is not open answers ("close an open file", R1300); here it is `Ok`, and nothing is closed. -/
def closeFile (fid : Nat) (h : HostEnv) : Bool × HostEnv :=
  let (bad, h) := h.failing
  if bad then (false, h) else (true, { h with opened := h.opened.filter (fun o => o.fid != fid) })

/-- The open file object of a `fid`. -/
def openFile? (h : HostEnv) (fid : Nat) : Option OpenFile := h.opened.find? (fun o => o.fid == fid)

/-- The file an open file object reads and writes: `none` once it was deleted, by the core (`live` is false) or by the host
itself between two steps (the directory no longer holds it). DESIGN CHOICE (log 12): a live object reaches the file that now
has its name. -/
def fileOf (h : HostEnv) (o : OpenFile) : Option HostFile := if o.live then h.file? o.letter o.name else none

/-- `Host.read(fid, pos, 128)`: `none` is `Err`. A file deleted while open, by whomever, answers freely (D45, log 12); a `fid`
that is not open is `Err` (DESIGN CHOICE, log 15). -/
def readFile (fid pos : Nat) (h : HostEnv) : Option (List Byte) × HostEnv :=
  let (bad, h) := h.failing
  if bad then (none, h)
  else
    match h.openFile? fid with
    | none => (none, h)
    | some o =>
      match h.fileOf o with
      | some f => (some ((f.data.drop pos).take 128), h)
      | none => ((Config.staleRead h.draws).map (·.take 128), { h with draws := h.draws + 1 })

/-- `n` free bytes, from draw `k` on. -/
def freeBytes : Nat → Nat → List Byte
  | 0, _ => []
  | n + 1, k => Config.freeByte k :: freeBytes n (k + 1)

/-- File contents after a write of `new` at `pos`; bytes between the old end and `pos` are free (log 14). -/
def overwrite (data : List Byte) (pos : Nat) (new : List Byte) (draws : Nat) : List Byte :=
  data.take pos ++ freeBytes (pos - data.length) draws ++ new ++ data.drop (pos + new.length)

/-- `Host.write(fid, pos, bytes)`: false is `Err`, which writes nothing. A file deleted while open, by
whomever, answers freely (D45, log 12); a `fid` that is not open is `Err` (DESIGN CHOICE, log 15). -/
def writeFile (fid pos : Nat) (new : List Byte) (h : HostEnv) : Bool × HostEnv :=
  let (bad, h) := h.failing
  if bad then (false, h)
  else
    match h.openFile? fid with
    | none => (false, h)
    | some o =>
      match h.fileOf o with
      | some f =>
        let data := overwrite f.data pos new h.draws
        let h := { h with draws := h.draws + (pos - f.data.length) }
        (true, h.mapFiles o.letter (updateFirst (fun g => g.name == o.name) (fun g => { g with data := data })))
      | none => (!Config.staleWrite h.draws, { h with draws := h.draws + 1 })

/-- `Host.list(letter)`: `none` is `Err`. -/
def listDir (letter : Byte) (h : HostEnv) : Option (List (List Byte)) × HostEnv :=
  let (bad, h) := h.failing
  if bad then (none, h) else ((h.dir? letter).map fun d => d.files.map (·.name), h)

/-- `Host.remove(letter, name)`: false is `Err`. Open file objects on the file stay, no longer live (D45). -/
def removeFile (letter : Byte) (name : List Byte) (h : HostEnv) : Bool × HostEnv :=
  let (bad, h) := h.failing
  if bad || !h.fileExists letter name then (false, h)
  else
    let h := h.mapFiles letter (·.eraseP (fun f => f.name == name))
    (true, { h with opened := h.opened.map fun o =>
                      if o.letter == letter && o.name == name then { o with live := false } else o })

/-! ## Ports (R1200) -/

/-- Whether an answer is for `port`. -/
def answersPort (port : Word) (a : PortAnswer) : Bool := a.port == none || a.port == some port

/-- The byte of the first answer for `port`, if there is one, and the answers left: one that does not stay is used up. -/
def takeAnswer (port : Word) : List PortAnswer → Option Byte × List PortAnswer
  | [] => (none, [])
  | a :: as =>
    if answersPort port a then (some a.value, if a.stays then a :: as else as)
    else
      let (v, rest) := takeAnswer port as
      (v, a :: rest)

/-- `Host.port_in(port)`: the byte of the first answer held for that port, or a free value of that port (log 9). The host sees
which port was read. -/
def portRead (port : Word) (h : HostEnv) : Byte × HostEnv :=
  match takeAnswer port h.portIn with
  | (some v, rest) => (v, { h with portIn := rest, portLog := h.portLog ++ [.read port v] })
  | (none, _) =>
    let v := Config.freePort port h.draws
    (v, { h with draws := h.draws + 1, portLog := h.portLog ++ [.read port v] })

/-- `Host.port_out(port, v)`. -/
def portWrite (port : Word) (v : Byte) (h : HostEnv) : HostEnv := { h with portLog := h.portLog ++ [.write port v] }

/-! ## What the host does between two steps to the interrupt lines (R1502) -/

/-- An NMI edge: pending until accepted; two edges before one acceptance give one NMI. -/
def nmiEdge (h : HostEnv) : HostEnv := { h with nmiPending := true }

/-- The INT level: asserted with a bus byte, or not. -/
def setInt (bus : Option Byte) (h : HostEnv) : HostEnv := { h with intLine := bus }

end HostEnv

end Sys2Proof.Machine
end

