-- ==== Sys2Proof/Machine/Memory.lean ====
section
/-!
DEFINITION. The memory of 20_memory.md: one array of 65 536 bytes, every address modulo 65536, no holes, no protection
(R200, R201, R211). It is held as the (address, byte) pairs that differ from the background, in rising address order.
-/

namespace Sys2Proof.Machine

/-- Memory: the listed cells; an unlisted address reads as `Memory.background`. -/
abbrev Memory := List Host.Cell

namespace Memory

/-- What a byte reads as that neither the image, the seeding nor the program has written. DESIGN CHOICE (log 3), unsafe:
the spec makes it a launch input, any value (D4). -/
def background : Byte := 0x00#8

/-- The canonical form: addresses strictly rising, from `lo` on, below 65536, and no cell equal to the background. -/
def wfFrom (lo : Nat) : Memory → Bool
  | [] => true
  | (k, v) :: m => decide (lo ≤ k) && decide (k < 65536) && v != background && wfFrom (k + 1) m

/-- The canonical form of memory. -/
def wf (m : Memory) : Bool := wfFrom 0 m

/-- The byte at address `a`, a number below 65536. -/
def lookup : Memory → Nat → Byte
  | [], _ => background
  | (k, v) :: m, a => if k = a then v else lookup m a

/-- The listing of one byte: none where it is the background. -/
def cell (a : Nat) (v : Byte) : Memory := if v = background then [] else [(a, v)]

/-- The memory with `v` at address `a`, a number below 65536; every other address unchanged. -/
def store : Memory → Nat → Byte → Memory
  | [], a, v => cell a v
  | (k, w) :: m, a, v =>
    if a < k then cell a v ++ (k, w) :: m
    else if a = k then cell a v ++ m
    else (k, w) :: store m a v

/-- `MemRead(addr, 1)` (R201). -/
def read (m : Memory) (a : Word) : Byte := lookup m a.toNat

/-- `MemWrite(addr, 1, v)` (R201). -/
def write (m : Memory) (a : Word) (v : Byte) : Memory := store m a.toNat v

/-- `MemRead(addr, 2)`: little-endian, `addr + 1` modulo 65536 (R202). -/
def read16 (m : Memory) (a : Word) : Word := cat (read m (a + 1)) (read m a)

/-- `MemWrite(addr, 2, v)`: the low byte at `addr`, the high byte at `addr + 1` (R202). -/
def write16 (m : Memory) (a : Word) (v : Word) : Memory := write (write m a (lo8 v)) (a + 1) (hi8 v)

/-- The `n` bytes from `a` on, addresses modulo 65536. -/
def readBytes (m : Memory) : Nat → Word → List Byte
  | 0, _ => []
  | n + 1, a => read m a :: readBytes m n (a + 1)

/-- Bytes written from `a` on in order, addresses modulo 65536. -/
def writeBytes (m : Memory) : Word → List Byte → Memory
  | _, [] => m
  | a, v :: vs => writeBytes (write m a v) (a + 1) vs

/-- The 17 BIOS slots, `n` of them from slot `i` on: `C3` and the slot's own address (R1602, R1380). -/
def seedSlots (m : Memory) (base : Word) : Nat → Nat → Memory
  | 0, _ => m
  | n + 1, i =>
    let a := base + BitVec.ofNat 16 (3 * i)
    seedSlots (write16 (write m a 0xC3#8) (a + 1) a) base n (i + 1)

/-- `SeedMemory()` (R1602). -/
def seed (p : Config.Params) (m : Memory) : Memory :=
  let m := write16 (write m 0x0000#16 0xC3#8) 0x0001#16 (p.biosBase + 3#16)
  let m := write (write m 0x0003#16 0x00#8) 0x0004#16 0x00#8
  let m := write16 (write m 0x0005#16 0xC3#8) 0x0006#16 p.bdosVector
  seedSlots m p.biosBase 17 0

end Memory

end Sys2Proof.Machine
end

