-- ==== Sys2Proof/Machine/State.lean ====
section
/-!
DEFINITION. The state of the machine (10_state.md), the faults of R1500, and the state after reset (R128).
-/

namespace Sys2Proof.Machine

open Sys2Proof.Config (Params)

/-- The interrupt mode `IM` (R114). -/
inductive IntMode where
  | im0 | im1 | im2
deriving DecidableEq, Repr

/-- The shadow set `A' F' B' C' D' E' H' L'` (R102). -/
structure Shadow where
  a : Byte
  f : Byte
  b : Byte
  c : Byte
  d : Byte
  e : Byte
  h : Byte
  l : Byte
deriving DecidableEq, Repr

/-- The CPU register file (R101 to R116). `F` is a byte: all eight of its bits are storage (R108). -/
structure Cpu where
  a : Byte
  f : Byte
  b : Byte
  c : Byte
  d : Byte
  e : Byte
  h : Byte
  l : Byte
  alt : Shadow
  ix : Word
  iy : Word
  sp : Word
  pc : Word
  i : Byte
  r : Byte
  iff1 : Bool
  iff2 : Bool
  im : IntMode
  halt : Bool
  eiDelay : Bool
deriving DecidableEq, Repr

/-- The search iterator `SEARCH` when there is one (R123, R1340). -/
structure Search where
  driveByte : Byte
  drive : Fin 16
  filter : List Byte
  remaining : List (List Byte)
deriving DecidableEq, Repr

/-- An open-file record of `HANDLES` (R124, R1338). -/
structure HandleRec where
  drive : Fin 16
  hostName : List Byte
  pos : Nat
  fid : Nat
deriving DecidableEq, Repr

/-- The CP/M ambient state (R120 to R125). `handles` is the partial map `HANDLES`, in rising handle order. -/
structure Ambient where
  dma : Word
  curDrive : Fin 16
  curUser : Fin 32
  search : Option Search
  handles : List (Nat × HandleRec)
deriving DecidableEq, Repr

/-- The fault kinds of R1500 with their info. The step that meets the condition sets `STATUS` to `Faulted` and leaves every
other component of the core (R1501); the machine then has no next step (R126) and `step` answers the fault. Safe: the stop
is the spec's own. -/
inductive Fault where
  /-- Raised by `step` on bytes with no row (R311). Safe: the spec names this fault. -/
  | unsupportedOpcode (pc : Word) (bytes : List Byte)
  /-- Raised by `HALT` with `IFF1 = 0` (R706). Safe: the spec names this fault. -/
  | haltWithInterruptsDisabled (pc : Word) (bytes : List Byte)
  /-- Raised by the BDOS trap with an unsupported `C` (R1350). Safe: the spec names this fault. -/
  | unsupportedBdosFunction (pc : Word) (n : Byte)
  /-- Raised by the BIOS trap on slots 0, 1 and 6 to 16 (R1385). Safe: the spec names this fault. -/
  | unsupportedBiosFunction (pc : Word) (slot : Nat)
  /-- Raised by a BDOS transfer into memory that would pass 0xFFFF (R1321). Safe: the spec names this fault. -/
  | dmaOverflow (pc : Word) (dma : Word) (len : Nat)
  /-- Raised by a failing console read or write, or the end of stdin (R1301). Safe: the spec names this fault. -/
  | consoleIOError (pc : Word)
  /-- Raised by C_WRITESTR on memory with no `$` (R1332). Safe: the spec names this fault. -/
  | unterminatedString (pc : Word) (de : Word)
  /-- Raised by IM 0 acceptance of a byte that is no RST (R1512). Safe: the spec names this fault. -/
  | unsupportedIm0Opcode (pc : Word) (bytes : List Byte)
  /-- Raised by `launch` of an image that does not fit (R1601). Safe: the spec names this fault. -/
  | imageTooLarge (loadAt : Word) (len : Nat)
deriving DecidableEq, Repr

/-- Why there is no step or no launch. -/
inductive Refusal where
  /-- An instruction with no meaning yet, by its mnemonic; no arm of `exec` answers it. Safe. -/
  | notModelled (mnemonic : String)
  /-- Raised by `step` after the run has exited: only a running machine has a next step (R126). Safe: the spec's own end. -/
  | exited
  /-- Raised by `launch` with a `BIOS_BASE` outside the constraints of D50: "a model refuses (does not launch with)" it.
  Safe: the spec asks for it. -/
  | biosBaseRefused
deriving DecidableEq, Repr

/-- The run status `STATUS` (R126). -/
inductive Status where
  | running
  | exited
  | faulted (f : Fault)
deriving DecidableEq, Repr

/-- The machine: the four components of R100, the host environment (R1300, outside the record of R100) and the parameters
of R10, which no step changes. -/
structure State where
  cpu : Cpu
  mem : Memory
  amb : Ambient
  status : Status
  host : HostEnv
  cfg : Params
deriving DecidableEq, Repr

/-- The shadow registers at reset. DESIGN CHOICE (log 2), unsafe: launch inputs, any value (R128, D3). -/
def Shadow.reset : Shadow := { a := 0, f := 0, b := 0, c := 0, d := 0, e := 0, h := 0, l := 0 }

/-- The register file at reset (R128, R1603). `A F B D E H L`, the shadow set, `IX` and `IY`: DESIGN CHOICE (log 2), unsafe:
launch inputs, any value (D3). `PC`: the entry of a `.COM` program, DESIGN CHOICE between the two launch forms (log 4). -/
def Cpu.reset : Cpu :=
  { a := 0, f := 0, b := 0, c := 0x00#8, d := 0, e := 0, h := 0, l := 0, alt := Shadow.reset, ix := 0, iy := 0,
    sp := 0x0100#16, pc := 0x0100#16, i := 0x00#8, r := 0x00#8, iff1 := false, iff2 := false, im := .im0,
    halt := false, eiDelay := false }

/-- The ambient state at reset (R128). -/
def Ambient.reset : Ambient := { dma := 0x0080#16, curDrive := 0, curUser := 0, search := none, handles := [] }

/-- The machine right after reset: the launch of R1600 in its `.COM` form with the default parameters and an empty image
(R128, R1605; log 4). Memory holds the seeded bytes of R1602. -/
def State.reset : State :=
  { cpu := Cpu.reset, mem := Memory.seed Params.default [], amb := Ambient.reset, status := .running,
    host := HostEnv.empty, cfg := Params.default }

end Sys2Proof.Machine
end

