-- ==== Sys2Proof/Syntax.lean ====
section
/-!
DEFINITION. The instructions: one constructor of `Instr` per row of spec/opcode_table.json, with the operands the row's
fields carry (30_encoding.md R303 to R308), and the encoding format of each (R310).
-/

namespace Sys2Proof

/-- An 8-bit register operand (R304); the code 110 is a memory operand, not a register. -/
inductive Reg8 where
  | b | c | d | e | h | l | a
deriving DecidableEq, Repr

/-- A register pair `rp` (R305). -/
inductive Pair where
  | bc | de | hl | sp
deriving DecidableEq, Repr

/-- A register pair `rp2` of PUSH and POP (R305). -/
inductive PairAf where
  | bc | de | hl | af
deriving DecidableEq, Repr

/-- A register pair of `ADD IX,pp` and `ADD IY,pp`: `xy` is the index register itself (R305, R803). -/
inductive PairX where
  | bc | de | xy | sp
deriving DecidableEq, Repr

/-- An index register, chosen by the DD or the FD byte (R313). -/
inductive XY where
  | ix | iy
deriving DecidableEq, Repr

/-- A half of an index register: `hi` is code 100, `lo` is code 101 (R304). -/
inductive Half where
  | hi | lo
deriving DecidableEq, Repr

/-- A register or index half: the operand of the undocumented index-half loads (R419). -/
inductive RegX where
  | b | c | d | e | hi | lo | a
deriving DecidableEq, Repr

/-- A condition (R306). -/
inductive Cond where
  | nz | z | nc | c | po | pe | p | m
deriving DecidableEq, Repr

/-- A condition of `JR cc,e` (R306). -/
inductive JrCond where
  | nz | z | nc | c
deriving DecidableEq, Repr

/-- The instruction formats of R310. -/
inductive Format where
  | u1 | u2n | u2e | u3nn | cb2 | ed2 | ed4nn | xy2 | xy3d | xy3n | xy4dn | xy4nn | xycb4
deriving DecidableEq, Repr

/-- The length in bytes of a format (R310, R319). -/
def Format.length : Format → Nat
  | .u1 => 1 | .u2n => 2 | .u2e => 2 | .u3nn => 3
  | .cb2 => 2 | .ed2 => 2 | .ed4nn => 4
  | .xy2 => 2 | .xy3d => 3 | .xy3n => 3 | .xy4dn => 4 | .xy4nn => 4 | .xycb4 => 4

/-- The M1 cycles of a format, by which `R` advances: 1 without a CB, ED, DD or FD byte, 2 with one, DD CB and FD CB
included (R117). -/
def Format.m1 : Format → Nat
  | .u1 => 1 | .u2n => 1 | .u2e => 1 | .u3nn => 1
  | .cb2 => 2 | .ed2 => 2 | .ed4nn => 2
  | .xy2 => 2 | .xy3d => 2 | .xy3n => 2 | .xy4dn => 2 | .xy4nn => 2 | .xycb4 => 2

/-- The instructions. `r`, `p`, `h`, `cc`: a register, pair, half, condition; `b`: a bit number; `t`: a restart index;
`n`, `d`, `e`: an immediate, displacement, offset byte; `nn`: a 16-bit immediate. -/
inductive Instr where
  -- Loads (40_load.md)
  /-- `LD r,r'` (R401) -/
  | ldRR (r : Reg8) (r' : Reg8)
  /-- `LD r,n` (R402) -/
  | ldRN (r : Reg8) (n : Byte)
  /-- `LD r,(HL)` (R403) -/
  | ldRHl (r : Reg8)
  /-- `LD r,(IX+d)` (R404) -/
  | ldRIxd (r : Reg8) (d : Byte)
  /-- `LD r,(IY+d)` (R404) -/
  | ldRIyd (r : Reg8) (d : Byte)
  /-- `LD (HL),r` (R405) -/
  | ldHlR (r : Reg8)
  /-- `LD (IX+d),r` (R406) -/
  | ldIxdR (d : Byte) (r : Reg8)
  /-- `LD (IY+d),r` (R406) -/
  | ldIydR (d : Byte) (r : Reg8)
  /-- `LD (HL),n` (R407) -/
  | ldHlN (n : Byte)
  /-- `LD (IX+d),n` (R408) -/
  | ldIxdN (d : Byte) (n : Byte)
  /-- `LD (IY+d),n` (R408) -/
  | ldIydN (d : Byte) (n : Byte)
  /-- `LD A,(BC)` (R409) -/
  | ldABc
  /-- `LD A,(DE)` (R410) -/
  | ldADe
  /-- `LD A,(nn)` (R411) -/
  | ldANn (nn : Word)
  /-- `LD (BC),A` (R412) -/
  | ldBcA
  /-- `LD (DE),A` (R413) -/
  | ldDeA
  /-- `LD (nn),A` (R414) -/
  | ldNnA (nn : Word)
  /-- `LD A,I` (R415) -/
  | ldAI
  /-- `LD A,R` (R416) -/
  | ldARefresh
  /-- `LD I,A` (R417) -/
  | ldIA
  /-- `LD R,A` (R418) -/
  | ldRefreshA
  /-- `LD between registers and the halves of IX` (R419) -/
  | ldIxHalves (r : RegX) (r' : RegX)
  /-- `LD between registers and the halves of IY` (R419) -/
  | ldIyHalves (r : RegX) (r' : RegX)
  /-- `LD IXH,n / LD IXL,n` (R420) -/
  | ldIxhN (h : Half) (n : Byte)
  /-- `LD IYH,n / LD IYL,n` (R420) -/
  | ldIyhN (h : Half) (n : Byte)
  /-- `LD dd,nn` (R430) -/
  | ldDdNn (p : Pair) (nn : Word)
  /-- `LD IX,nn` (R431) -/
  | ldIxNn (nn : Word)
  /-- `LD IY,nn` (R431) -/
  | ldIyNn (nn : Word)
  /-- `LD HL,(nn)` (R432) -/
  | ldHlMem (nn : Word)
  /-- `LD dd,(nn)` (R433) -/
  | ldDdMem (p : Pair) (nn : Word)
  /-- `LD IX,(nn)` (R434) -/
  | ldIxMem (nn : Word)
  /-- `LD IY,(nn)` (R434) -/
  | ldIyMem (nn : Word)
  /-- `LD (nn),HL` (R435) -/
  | ldMemHl (nn : Word)
  /-- `LD (nn),dd` (R436) -/
  | ldMemDd (nn : Word) (p : Pair)
  /-- `LD (nn),IX` (R437) -/
  | ldMemIx (nn : Word)
  /-- `LD (nn),IY` (R437) -/
  | ldMemIy (nn : Word)
  /-- `LD SP,HL` (R438) -/
  | ldSpHl
  /-- `LD SP,IX` (R439) -/
  | ldSpIx
  /-- `LD SP,IY` (R439) -/
  | ldSpIy
  /-- `PUSH qq` (R440) -/
  | pushQq (p : PairAf)
  /-- `PUSH IX` (R441) -/
  | pushIx
  /-- `PUSH IY` (R441) -/
  | pushIy
  /-- `POP qq` (R442) -/
  | popQq (p : PairAf)
  /-- `POP IX` (R443) -/
  | popIx
  /-- `POP IY` (R443) -/
  | popIy
  -- Exchange, block transfer and block search (41_exchange_block.md)
  /-- `EX DE,HL` (R500) -/
  | exDeHl
  /-- `EX AF,AF'` (R501) -/
  | exAfAf
  /-- `EXX` (R502) -/
  | exx
  /-- `EX (SP),HL` (R503) -/
  | exSpHl
  /-- `EX (SP),IX` (R504) -/
  | exSpIx
  /-- `EX (SP),IY` (R504) -/
  | exSpIy
  /-- `LDI` (R505) -/
  | ldi
  /-- `LDIR` (R506) -/
  | ldir
  /-- `LDD` (R507) -/
  | ldd
  /-- `LDDR` (R508) -/
  | lddr
  /-- `CPI` (R509) -/
  | cpi
  /-- `CPIR` (R510) -/
  | cpir
  /-- `CPD` (R511) -/
  | cpd
  /-- `CPDR` (R512) -/
  | cpdr
  -- 8-bit arithmetic and logic (42_alu8.md)
  /-- `ADD A,r` (R610) -/
  | addR (r : Reg8)
  /-- `ADD A,n` (R611) -/
  | addN (n : Byte)
  /-- `ADD A,(HL)` (R612) -/
  | addHl
  /-- `ADD A,(IX+d)` (R613) -/
  | addIxd (d : Byte)
  /-- `ADD A,(IY+d)` (R613) -/
  | addIyd (d : Byte)
  /-- `ADD A,IXH / IXL` (R614) -/
  | addIxh (h : Half)
  /-- `ADD A,IYH / IYL` (R614) -/
  | addIyh (h : Half)
  /-- `ADC A,r` (R615) -/
  | adcR (r : Reg8)
  /-- `ADC A,n` (R616) -/
  | adcN (n : Byte)
  /-- `ADC A,(HL)` (R617) -/
  | adcHl
  /-- `ADC A,(IX+d)` (R618) -/
  | adcIxd (d : Byte)
  /-- `ADC A,(IY+d)` (R618) -/
  | adcIyd (d : Byte)
  /-- `ADC A,IXH / IXL` (R619) -/
  | adcIxh (h : Half)
  /-- `ADC A,IYH / IYL` (R619) -/
  | adcIyh (h : Half)
  /-- `SUB r` (R620) -/
  | subR (r : Reg8)
  /-- `SUB n` (R621) -/
  | subN (n : Byte)
  /-- `SUB (HL)` (R622) -/
  | subHl
  /-- `SUB (IX+d)` (R623) -/
  | subIxd (d : Byte)
  /-- `SUB (IY+d)` (R623) -/
  | subIyd (d : Byte)
  /-- `SUB IXH / IXL` (R624) -/
  | subIxh (h : Half)
  /-- `SUB IYH / IYL` (R624) -/
  | subIyh (h : Half)
  /-- `SBC A,r` (R625) -/
  | sbcR (r : Reg8)
  /-- `SBC A,n` (R626) -/
  | sbcN (n : Byte)
  /-- `SBC A,(HL)` (R627) -/
  | sbcHl
  /-- `SBC A,(IX+d)` (R628) -/
  | sbcIxd (d : Byte)
  /-- `SBC A,(IY+d)` (R628) -/
  | sbcIyd (d : Byte)
  /-- `SBC A,IXH / IXL` (R629) -/
  | sbcIxh (h : Half)
  /-- `SBC A,IYH / IYL` (R629) -/
  | sbcIyh (h : Half)
  /-- `AND r` (R630) -/
  | andR (r : Reg8)
  /-- `AND n` (R631) -/
  | andN (n : Byte)
  /-- `AND (HL)` (R632) -/
  | andHl
  /-- `AND (IX+d)` (R633) -/
  | andIxd (d : Byte)
  /-- `AND (IY+d)` (R633) -/
  | andIyd (d : Byte)
  /-- `AND IXH / IXL` (R634) -/
  | andIxh (h : Half)
  /-- `AND IYH / IYL` (R634) -/
  | andIyh (h : Half)
  /-- `XOR r` (R635) -/
  | xorR (r : Reg8)
  /-- `XOR n` (R636) -/
  | xorN (n : Byte)
  /-- `XOR (HL)` (R637) -/
  | xorHl
  /-- `XOR (IX+d)` (R638) -/
  | xorIxd (d : Byte)
  /-- `XOR (IY+d)` (R638) -/
  | xorIyd (d : Byte)
  /-- `XOR IXH / IXL` (R639) -/
  | xorIxh (h : Half)
  /-- `XOR IYH / IYL` (R639) -/
  | xorIyh (h : Half)
  /-- `OR r` (R640) -/
  | orR (r : Reg8)
  /-- `OR n` (R641) -/
  | orN (n : Byte)
  /-- `OR (HL)` (R642) -/
  | orHl
  /-- `OR (IX+d)` (R643) -/
  | orIxd (d : Byte)
  /-- `OR (IY+d)` (R643) -/
  | orIyd (d : Byte)
  /-- `OR IXH / IXL` (R644) -/
  | orIxh (h : Half)
  /-- `OR IYH / IYL` (R644) -/
  | orIyh (h : Half)
  /-- `CP r` (R645) -/
  | cpR (r : Reg8)
  /-- `CP n` (R646) -/
  | cpN (n : Byte)
  /-- `CP (HL)` (R647) -/
  | cpHl
  /-- `CP (IX+d)` (R648) -/
  | cpIxd (d : Byte)
  /-- `CP (IY+d)` (R648) -/
  | cpIyd (d : Byte)
  /-- `CP IXH / IXL` (R649) -/
  | cpIxh (h : Half)
  /-- `CP IYH / IYL` (R649) -/
  | cpIyh (h : Half)
  /-- `INC r` (R650) -/
  | incR (r : Reg8)
  /-- `INC (HL)` (R651) -/
  | incHl
  /-- `INC (IX+d)` (R652) -/
  | incIxd (d : Byte)
  /-- `INC (IY+d)` (R652) -/
  | incIyd (d : Byte)
  /-- `INC IXH / INC IXL` (R653) -/
  | incIxh (h : Half)
  /-- `INC IYH / INC IYL` (R653) -/
  | incIyh (h : Half)
  /-- `DEC r` (R654) -/
  | decR (r : Reg8)
  /-- `DEC (HL)` (R655) -/
  | decHl
  /-- `DEC (IX+d)` (R656) -/
  | decIxd (d : Byte)
  /-- `DEC (IY+d)` (R656) -/
  | decIyd (d : Byte)
  /-- `DEC IXH / DEC IXL` (R657) -/
  | decIxh (h : Half)
  /-- `DEC IYH / DEC IYL` (R657) -/
  | decIyh (h : Half)
  -- Accumulator, flag and CPU control (43_general_cpu_control.md)
  /-- `DAA` (R700) -/
  | daa
  /-- `CPL` (R701) -/
  | cpl
  /-- `NEG` (R702) -/
  | neg
  /-- `CCF` (R703) -/
  | ccf
  /-- `SCF` (R704) -/
  | scf
  /-- `NOP` (R705) -/
  | nop
  /-- `HALT` (R706) -/
  | halt
  /-- `DI` (R707) -/
  | di
  /-- `EI` (R708) -/
  | ei
  /-- `IM 0` (R709) -/
  | im0
  /-- `IM 1` (R710) -/
  | im1
  /-- `IM 2` (R711) -/
  | im2
  -- 16-bit arithmetic (44_alu16.md)
  /-- `ADD HL,ss` (R800) -/
  | addHlSs (p : Pair)
  /-- `ADC HL,ss` (R801) -/
  | adcHlSs (p : Pair)
  /-- `SBC HL,ss` (R802) -/
  | sbcHlSs (p : Pair)
  /-- `ADD IX,pp` (R803) -/
  | addIxPp (p : PairX)
  /-- `ADD IY,pp` (R803) -/
  | addIyPp (p : PairX)
  /-- `INC ss` (R804) -/
  | incSs (p : Pair)
  /-- `INC IX` (R805) -/
  | incIx
  /-- `INC IY` (R805) -/
  | incIy
  /-- `DEC ss` (R806) -/
  | decSs (p : Pair)
  /-- `DEC IX` (R807) -/
  | decIx
  /-- `DEC IY` (R807) -/
  | decIy
  -- Rotates and shifts (45_rotate_shift.md)
  /-- `RLCA` (R900) -/
  | rlca
  /-- `RLA` (R901) -/
  | rla
  /-- `RRCA` (R902) -/
  | rrca
  /-- `RRA` (R903) -/
  | rra
  /-- `RLC r` (R910) -/
  | rlcR (r : Reg8)
  /-- `RLC (HL)` (R911) -/
  | rlcHl
  /-- `RLC (IX+d)` (R912) -/
  | rlcIxd (d : Byte)
  /-- `RLC (IY+d)` (R912) -/
  | rlcIyd (d : Byte)
  /-- `RRC r` (R913) -/
  | rrcR (r : Reg8)
  /-- `RRC (HL)` (R914) -/
  | rrcHl
  /-- `RRC (IX+d)` (R915) -/
  | rrcIxd (d : Byte)
  /-- `RRC (IY+d)` (R915) -/
  | rrcIyd (d : Byte)
  /-- `RL r` (R916) -/
  | rlR (r : Reg8)
  /-- `RL (HL)` (R917) -/
  | rlHl
  /-- `RL (IX+d)` (R918) -/
  | rlIxd (d : Byte)
  /-- `RL (IY+d)` (R918) -/
  | rlIyd (d : Byte)
  /-- `RR r` (R919) -/
  | rrR (r : Reg8)
  /-- `RR (HL)` (R920) -/
  | rrHl
  /-- `RR (IX+d)` (R921) -/
  | rrIxd (d : Byte)
  /-- `RR (IY+d)` (R921) -/
  | rrIyd (d : Byte)
  /-- `SLA r` (R922) -/
  | slaR (r : Reg8)
  /-- `SLA (HL)` (R923) -/
  | slaHl
  /-- `SLA (IX+d)` (R924) -/
  | slaIxd (d : Byte)
  /-- `SLA (IY+d)` (R924) -/
  | slaIyd (d : Byte)
  /-- `SRA r` (R925) -/
  | sraR (r : Reg8)
  /-- `SRA (HL)` (R926) -/
  | sraHl
  /-- `SRA (IX+d)` (R927) -/
  | sraIxd (d : Byte)
  /-- `SRA (IY+d)` (R927) -/
  | sraIyd (d : Byte)
  /-- `SLL r` (R928) -/
  | sllR (r : Reg8)
  /-- `SLL (HL)` (R929) -/
  | sllHl
  /-- `SLL (IX+d)` (R930) -/
  | sllIxd (d : Byte)
  /-- `SLL (IY+d)` (R930) -/
  | sllIyd (d : Byte)
  /-- `SRL r` (R931) -/
  | srlR (r : Reg8)
  /-- `SRL (HL)` (R932) -/
  | srlHl
  /-- `SRL (IX+d)` (R933) -/
  | srlIxd (d : Byte)
  /-- `SRL (IY+d)` (R933) -/
  | srlIyd (d : Byte)
  /-- `RLD` (R940) -/
  | rld
  /-- `RRD` (R941) -/
  | rrd
  -- Bit test, set and reset (46_bit.md)
  /-- `BIT b,r` (R1001) -/
  | bitBR (b : Fin 8) (r : Reg8)
  /-- `BIT b,(HL)` (R1002) -/
  | bitBHl (b : Fin 8)
  /-- `BIT b,(IX+d)` (R1003) -/
  | bitBIxd (d : Byte) (b : Fin 8)
  /-- `BIT b,(IY+d)` (R1003) -/
  | bitBIyd (d : Byte) (b : Fin 8)
  /-- `SET b,r` (R1004) -/
  | setBR (b : Fin 8) (r : Reg8)
  /-- `SET b,(HL)` (R1005) -/
  | setBHl (b : Fin 8)
  /-- `SET b,(IX+d)` (R1006) -/
  | setBIxd (d : Byte) (b : Fin 8)
  /-- `SET b,(IY+d)` (R1006) -/
  | setBIyd (d : Byte) (b : Fin 8)
  /-- `RES b,r` (R1007) -/
  | resBR (b : Fin 8) (r : Reg8)
  /-- `RES b,(HL)` (R1008) -/
  | resBHl (b : Fin 8)
  /-- `RES b,(IX+d)` (R1009) -/
  | resBIxd (d : Byte) (b : Fin 8)
  /-- `RES b,(IY+d)` (R1009) -/
  | resBIyd (d : Byte) (b : Fin 8)
  -- Jump, call and return (47_jump_call_return.md)
  /-- `JP nn` (R1101) -/
  | jpNn (nn : Word)
  /-- `JP cc,nn` (R1102) -/
  | jpCcNn (cc : Cond) (nn : Word)
  /-- `JR e` (R1103) -/
  | jrE (e : Byte)
  /-- `JR cc,e` (R1104) -/
  | jrCcE (cc : JrCond) (e : Byte)
  /-- `JP (HL)` (R1105) -/
  | jpHl
  /-- `JP (IX)` (R1106) -/
  | jpIx
  /-- `JP (IY)` (R1106) -/
  | jpIy
  /-- `DJNZ e` (R1107) -/
  | djnzE (e : Byte)
  /-- `CALL nn` (R1108) -/
  | callNn (nn : Word)
  /-- `CALL cc,nn` (R1109) -/
  | callCcNn (cc : Cond) (nn : Word)
  /-- `RST p` (R1114) -/
  | rstP (t : Fin 8)
  /-- `RET` (R1110) -/
  | ret
  /-- `RET cc` (R1111) -/
  | retCc (cc : Cond)
  /-- `RETI` (R1112) -/
  | reti
  /-- `RETN` (R1113) -/
  | retn
  -- Input and output (48_io.md)
  /-- `IN A,(n)` (R1201) -/
  | inAN (n : Byte)
  /-- `IN r,(C)` (R1202) -/
  | inRC (r : Reg8)
  /-- `INI` (R1203) -/
  | ini
  /-- `INIR` (R1204) -/
  | inir
  /-- `IND` (R1205) -/
  | ind
  /-- `INDR` (R1206) -/
  | indr
  /-- `OUT (n),A` (R1207) -/
  | outNA (n : Byte)
  /-- `OUT (C),r` (R1208) -/
  | outCR (r : Reg8)
  /-- `OUTI` (R1209) -/
  | outi
  /-- `OTIR` (R1210) -/
  | otir
  /-- `OUTD` (R1211) -/
  | outd
  /-- `OTDR` (R1212) -/
  | otdr
deriving DecidableEq, Repr

/-- The format of each instruction, the `format` of its row. -/
def Instr.format : Instr → Format
  | .ldRR _ _ => .u1
  | .ldRN _ _ => .u2n
  | .ldRHl _ => .u1
  | .ldRIxd _ _ => .xy3d
  | .ldRIyd _ _ => .xy3d
  | .ldHlR _ => .u1
  | .ldIxdR _ _ => .xy3d
  | .ldIydR _ _ => .xy3d
  | .ldHlN _ => .u2n
  | .ldIxdN _ _ => .xy4dn
  | .ldIydN _ _ => .xy4dn
  | .ldABc => .u1
  | .ldADe => .u1
  | .ldANn _ => .u3nn
  | .ldBcA => .u1
  | .ldDeA => .u1
  | .ldNnA _ => .u3nn
  | .ldAI => .ed2
  | .ldARefresh => .ed2
  | .ldIA => .ed2
  | .ldRefreshA => .ed2
  | .ldIxHalves _ _ => .xy2
  | .ldIyHalves _ _ => .xy2
  | .ldIxhN _ _ => .xy3n
  | .ldIyhN _ _ => .xy3n
  | .ldDdNn _ _ => .u3nn
  | .ldIxNn _ => .xy4nn
  | .ldIyNn _ => .xy4nn
  | .ldHlMem _ => .u3nn
  | .ldDdMem _ _ => .ed4nn
  | .ldIxMem _ => .xy4nn
  | .ldIyMem _ => .xy4nn
  | .ldMemHl _ => .u3nn
  | .ldMemDd _ _ => .ed4nn
  | .ldMemIx _ => .xy4nn
  | .ldMemIy _ => .xy4nn
  | .ldSpHl => .u1
  | .ldSpIx => .xy2
  | .ldSpIy => .xy2
  | .pushQq _ => .u1
  | .pushIx => .xy2
  | .pushIy => .xy2
  | .popQq _ => .u1
  | .popIx => .xy2
  | .popIy => .xy2
  | .exDeHl => .u1
  | .exAfAf => .u1
  | .exx => .u1
  | .exSpHl => .u1
  | .exSpIx => .xy2
  | .exSpIy => .xy2
  | .ldi => .ed2
  | .ldir => .ed2
  | .ldd => .ed2
  | .lddr => .ed2
  | .cpi => .ed2
  | .cpir => .ed2
  | .cpd => .ed2
  | .cpdr => .ed2
  | .addR _ => .u1
  | .addN _ => .u2n
  | .addHl => .u1
  | .addIxd _ => .xy3d
  | .addIyd _ => .xy3d
  | .addIxh _ => .xy2
  | .addIyh _ => .xy2
  | .adcR _ => .u1
  | .adcN _ => .u2n
  | .adcHl => .u1
  | .adcIxd _ => .xy3d
  | .adcIyd _ => .xy3d
  | .adcIxh _ => .xy2
  | .adcIyh _ => .xy2
  | .subR _ => .u1
  | .subN _ => .u2n
  | .subHl => .u1
  | .subIxd _ => .xy3d
  | .subIyd _ => .xy3d
  | .subIxh _ => .xy2
  | .subIyh _ => .xy2
  | .sbcR _ => .u1
  | .sbcN _ => .u2n
  | .sbcHl => .u1
  | .sbcIxd _ => .xy3d
  | .sbcIyd _ => .xy3d
  | .sbcIxh _ => .xy2
  | .sbcIyh _ => .xy2
  | .andR _ => .u1
  | .andN _ => .u2n
  | .andHl => .u1
  | .andIxd _ => .xy3d
  | .andIyd _ => .xy3d
  | .andIxh _ => .xy2
  | .andIyh _ => .xy2
  | .xorR _ => .u1
  | .xorN _ => .u2n
  | .xorHl => .u1
  | .xorIxd _ => .xy3d
  | .xorIyd _ => .xy3d
  | .xorIxh _ => .xy2
  | .xorIyh _ => .xy2
  | .orR _ => .u1
  | .orN _ => .u2n
  | .orHl => .u1
  | .orIxd _ => .xy3d
  | .orIyd _ => .xy3d
  | .orIxh _ => .xy2
  | .orIyh _ => .xy2
  | .cpR _ => .u1
  | .cpN _ => .u2n
  | .cpHl => .u1
  | .cpIxd _ => .xy3d
  | .cpIyd _ => .xy3d
  | .cpIxh _ => .xy2
  | .cpIyh _ => .xy2
  | .incR _ => .u1
  | .incHl => .u1
  | .incIxd _ => .xy3d
  | .incIyd _ => .xy3d
  | .incIxh _ => .xy2
  | .incIyh _ => .xy2
  | .decR _ => .u1
  | .decHl => .u1
  | .decIxd _ => .xy3d
  | .decIyd _ => .xy3d
  | .decIxh _ => .xy2
  | .decIyh _ => .xy2
  | .daa => .u1
  | .cpl => .u1
  | .neg => .ed2
  | .ccf => .u1
  | .scf => .u1
  | .nop => .u1
  | .halt => .u1
  | .di => .u1
  | .ei => .u1
  | .im0 => .ed2
  | .im1 => .ed2
  | .im2 => .ed2
  | .addHlSs _ => .u1
  | .adcHlSs _ => .ed2
  | .sbcHlSs _ => .ed2
  | .addIxPp _ => .xy2
  | .addIyPp _ => .xy2
  | .incSs _ => .u1
  | .incIx => .xy2
  | .incIy => .xy2
  | .decSs _ => .u1
  | .decIx => .xy2
  | .decIy => .xy2
  | .rlca => .u1
  | .rla => .u1
  | .rrca => .u1
  | .rra => .u1
  | .rlcR _ => .cb2
  | .rlcHl => .cb2
  | .rlcIxd _ => .xycb4
  | .rlcIyd _ => .xycb4
  | .rrcR _ => .cb2
  | .rrcHl => .cb2
  | .rrcIxd _ => .xycb4
  | .rrcIyd _ => .xycb4
  | .rlR _ => .cb2
  | .rlHl => .cb2
  | .rlIxd _ => .xycb4
  | .rlIyd _ => .xycb4
  | .rrR _ => .cb2
  | .rrHl => .cb2
  | .rrIxd _ => .xycb4
  | .rrIyd _ => .xycb4
  | .slaR _ => .cb2
  | .slaHl => .cb2
  | .slaIxd _ => .xycb4
  | .slaIyd _ => .xycb4
  | .sraR _ => .cb2
  | .sraHl => .cb2
  | .sraIxd _ => .xycb4
  | .sraIyd _ => .xycb4
  | .sllR _ => .cb2
  | .sllHl => .cb2
  | .sllIxd _ => .xycb4
  | .sllIyd _ => .xycb4
  | .srlR _ => .cb2
  | .srlHl => .cb2
  | .srlIxd _ => .xycb4
  | .srlIyd _ => .xycb4
  | .rld => .ed2
  | .rrd => .ed2
  | .bitBR _ _ => .cb2
  | .bitBHl _ => .cb2
  | .bitBIxd _ _ => .xycb4
  | .bitBIyd _ _ => .xycb4
  | .setBR _ _ => .cb2
  | .setBHl _ => .cb2
  | .setBIxd _ _ => .xycb4
  | .setBIyd _ _ => .xycb4
  | .resBR _ _ => .cb2
  | .resBHl _ => .cb2
  | .resBIxd _ _ => .xycb4
  | .resBIyd _ _ => .xycb4
  | .jpNn _ => .u3nn
  | .jpCcNn _ _ => .u3nn
  | .jrE _ => .u2e
  | .jrCcE _ _ => .u2e
  | .jpHl => .u1
  | .jpIx => .xy2
  | .jpIy => .xy2
  | .djnzE _ => .u2e
  | .callNn _ => .u3nn
  | .callCcNn _ _ => .u3nn
  | .rstP _ => .u1
  | .ret => .u1
  | .retCc _ => .u1
  | .reti => .ed2
  | .retn => .ed2
  | .inAN _ => .u2n
  | .inRC _ => .ed2
  | .ini => .ed2
  | .inir => .ed2
  | .ind => .ed2
  | .indr => .ed2
  | .outNA _ => .u2n
  | .outCR _ => .ed2
  | .outi => .ed2
  | .otir => .ed2
  | .outd => .ed2
  | .otdr => .ed2

/-- The length of an instruction in bytes (R319). -/
def Instr.length (i : Instr) : Nat := i.format.length

end Sys2Proof
end

