-- ==== Sys2Proof/Machine/Ops.lean ====
section
/-!
DEFINITION. The named operations over registers, memory, stack and host, the frame of an instruction step (R309), faults
(R1501), the entry of a handler (R1510 to R1513) and the return from one (R1112, R1113).
-/

namespace Sys2Proof.Machine

namespace State

/-! ## Registers (R101 to R105, R304, R305). A pair's first-named register is its high byte (R101). -/

/-- The state with its register file changed by `f`. -/
def withCpu (f : Cpu → Cpu) (s : State) : State := { s with cpu := f s.cpu }

/-- `x[r]` (R13, R304). -/
def reg (s : State) : Reg8 → Byte
  | .b => s.cpu.b
  | .c => s.cpu.c
  | .d => s.cpu.d
  | .e => s.cpu.e
  | .h => s.cpu.h
  | .l => s.cpu.l
  | .a => s.cpu.a

/-- `x[r] <- v` (R13, R304). -/
def setReg (r : Reg8) (v : Byte) (s : State) : State :=
  match r with
  | .b => s.withCpu fun c => { c with b := v }
  | .c => s.withCpu fun c => { c with c := v }
  | .d => s.withCpu fun c => { c with d := v }
  | .e => s.withCpu fun c => { c with e := v }
  | .h => s.withCpu fun c => { c with h := v }
  | .l => s.withCpu fun c => { c with l := v }
  | .a => s.withCpu fun c => { c with a := v }

/-- `x[A] <- v`. -/
def setA (v : Byte) (s : State) : State := s.withCpu fun c => { c with a := v }

/-- `x[B] <- v`. -/
def setB (v : Byte) (s : State) : State := s.withCpu fun c => { c with b := v }

/-- `x[BC]` (R101, R104). -/
def bc (s : State) : Word := cat s.cpu.b s.cpu.c

/-- `x[DE]` (R101, R104). -/
def de (s : State) : Word := cat s.cpu.d s.cpu.e

/-- `x[HL]` (R101, R104). -/
def hl (s : State) : Word := cat s.cpu.h s.cpu.l

/-- `x[AF]` (R101, R104). -/
def af (s : State) : Word := cat s.cpu.a s.cpu.f

/-- `x[BC] <- v` (R104). -/
def setBc (v : Word) (s : State) : State := s.withCpu fun c => { c with b := hi8 v, c := lo8 v }

/-- `x[DE] <- v` (R104). -/
def setDe (v : Word) (s : State) : State := s.withCpu fun c => { c with d := hi8 v, e := lo8 v }

/-- `x[HL] <- v` (R104). -/
def setHl (v : Word) (s : State) : State := s.withCpu fun c => { c with h := hi8 v, l := lo8 v }

/-- `x[AF] <- v` (R104). -/
def setAf (v : Word) (s : State) : State := s.withCpu fun c => { c with a := hi8 v, f := lo8 v }

/-- `x[SP] <- v` (R105). -/
def setSp (v : Word) (s : State) : State := s.withCpu fun c => { c with sp := v }

/-- `pc <- v` (R13, R106). -/
def setPc (v : Word) (s : State) : State := s.withCpu fun c => { c with pc := v }

/-- A register pair `rp` (R305). -/
def pair (s : State) : Pair → Word
  | .bc => s.bc
  | .de => s.de
  | .hl => s.hl
  | .sp => s.cpu.sp

/-- A write of a register pair `rp` (R305). -/
def setPair (p : Pair) (v : Word) (s : State) : State :=
  match p with
  | .bc => s.setBc v
  | .de => s.setDe v
  | .hl => s.setHl v
  | .sp => s.setSp v

/-- A register pair `rp2` (R305). -/
def pairAf (s : State) : PairAf → Word
  | .bc => s.bc
  | .de => s.de
  | .hl => s.hl
  | .af => s.af

/-- A write of a register pair `rp2` (R305). -/
def setPairAf (p : PairAf) (v : Word) (s : State) : State :=
  match p with
  | .bc => s.setBc v
  | .de => s.setDe v
  | .hl => s.setHl v
  | .af => s.setAf v

/-- `x[XY]`: an index register (R103). -/
def xy (s : State) : XY → Word
  | .ix => s.cpu.ix
  | .iy => s.cpu.iy

/-- `x[XY] <- v` (R103). -/
def setXy (x : XY) (v : Word) (s : State) : State :=
  match x with
  | .ix => s.withCpu fun c => { c with ix := v }
  | .iy => s.withCpu fun c => { c with iy := v }

/-- The register pair of `ADD XY,pp` (R305, R803). -/
def pairX (s : State) (x : XY) : PairX → Word
  | .bc => s.bc
  | .de => s.de
  | .xy => s.xy x
  | .sp => s.cpu.sp

/-- `x[XYH]` or `x[XYL]` (R103). -/
def half (s : State) (x : XY) : Half → Byte
  | .hi => hi8 (s.xy x)
  | .lo => lo8 (s.xy x)

/-- A write of an index half: the other half is unchanged (R104). -/
def setHalf (x : XY) (h : Half) (v : Byte) (s : State) : State :=
  match h with
  | .hi => s.setXy x (cat v (lo8 (s.xy x)))
  | .lo => s.setXy x (cat (hi8 (s.xy x)) v)

/-- A register or index half (R419). -/
def regX (s : State) (x : XY) : RegX → Byte
  | .b => s.cpu.b
  | .c => s.cpu.c
  | .d => s.cpu.d
  | .e => s.cpu.e
  | .hi => s.half x .hi
  | .lo => s.half x .lo
  | .a => s.cpu.a

/-- A write of a register or index half (R419). -/
def setRegX (x : XY) (r : RegX) (v : Byte) (s : State) : State :=
  match r with
  | .b => s.setReg .b v
  | .c => s.setReg .c v
  | .d => s.setReg .d v
  | .e => s.setReg .e v
  | .hi => s.setHalf x .hi v
  | .lo => s.setHalf x .lo v
  | .a => s.setReg .a v

/-! ## Flags (R108) -/

/-- The flags of `F`. -/
def flags (s : State) : Flags := Flags.ofByte s.cpu.f

/-- `F.C`. -/
def carry (s : State) : Bool := s.flags.c

/-- A write of `F`. -/
def setF (v : Byte) (s : State) : State := s.withCpu fun c => { c with f := v }

/-- A write of all eight flags; a rule's unchanged flags are in `fl` as they were. -/
def setFlags (fl : Flags) (s : State) : State := s.setF fl.toByte

/-! ## Memory (R201, R202) and stack (R15) -/

/-- `MemRead(a, 1)`. -/
def peek (s : State) (a : Word) : Byte := s.mem.read a

/-- `MemRead(a, 2)`. -/
def peek16 (s : State) (a : Word) : Word := s.mem.read16 a

/-- `MemWrite(a, 1, v)`. -/
def poke (a : Word) (v : Byte) (s : State) : State := { s with mem := s.mem.write a v }

/-- `MemWrite(a, 2, v)`. -/
def poke16 (a : Word) (v : Word) (s : State) : State := { s with mem := s.mem.write16 a v }

/-- Bytes written from `a` on, addresses modulo 65536. -/
def pokeBytes (a : Word) (vs : List Byte) (s : State) : State := { s with mem := s.mem.writeBytes a vs }

/-- `Push16(v)`: the high byte first, each byte below the last (R15). -/
def push16 (v : Word) (s : State) : State :=
  let s := s.setSp (s.cpu.sp - 1)
  let s := s.poke s.cpu.sp (hi8 v)
  let s := s.setSp (s.cpu.sp - 1)
  s.poke s.cpu.sp (lo8 v)

/-- What `Pop16()` returns: the low byte at `SP`, the high byte above it (R15). -/
def top16 (s : State) : Word := cat (s.peek (s.cpu.sp + 1)) (s.peek s.cpu.sp)

/-- `SP` after `Pop16()` (R15). -/
def dropWord (s : State) : State := s.setSp (s.cpu.sp + 2)

/-- `pc <- Pop16()`. -/
def popPc (s : State) : State := (s.setPc s.top16).dropWord

/-- The bytes at `PC .. PC+3` (R1500). -/
def pcBytes (s : State) : List Byte := s.mem.readBytes 4 s.cpu.pc

/-! ## Free values, host, interrupt latches -/

/-- The state with the host changed by `f`. -/
def withHost (f : HostEnv → HostEnv) (s : State) : State := { s with host := f s.host }

/-- The next free byte (R17: `draw u8`). -/
def drawn (s : State) : Byte := s.host.draw.1

/-- One more draw taken. -/
def afterDraw (s : State) : State := s.withHost fun h => h.draw.2

/-- The bits `mask` of `F` written with a draw, the others kept (R523). -/
def drawFlags (mask : Byte) (s : State) : State :=
  (s.setF ((s.cpu.f &&& ~~~mask) ||| (s.drawn &&& mask))).afterDraw

/-- `R[6:0] <- R[6:0] + m` (R117). -/
def bump (m : Nat) (s : State) : State := s.withCpu fun c => { c with r := bumpR m c.r }

/-- `EI_DELAY <- b` (R116). -/
def setEiDelay (b : Bool) (s : State) : State := s.withCpu fun c => { c with eiDelay := b }

/-- `HALT <- b` (R115). -/
def setHalt (b : Bool) (s : State) : State := s.withCpu fun c => { c with halt := b }

/-- `IFF1 <- b1; IFF2 <- b2` (R113). -/
def setIff (b1 b2 : Bool) (s : State) : State := s.withCpu fun c => { c with iff1 := b1, iff2 := b2 }

/-- `IM <- m` (R114). -/
def setIm (m : IntMode) (s : State) : State := s.withCpu fun c => { c with im := m }

/-- The ambient state changed by `f`. -/
def withAmb (f : Ambient → Ambient) (s : State) : State := { s with amb := f s.amb }

/-- `STATUS <- v` (R126). -/
def setStatus (v : Status) (s : State) : State := { s with status := v }

/-! ## The frame of an instruction step (R309) -/

/-- The start of an instruction of format `fm`: `R` advances before the effect (R117), and `EI_DELAY` is 0 after the step
unless the effect sets it (R116). `PC` still holds the instruction's address (R106). -/
def opening (fm : Format) (s : State) : State := (s.bump fm.m1).setEiDelay false

/-- `PCn = (PC + len) mod 65536` (R18). -/
def nextPc (fm : Format) (s : State) : Word := s.cpu.pc + BitVec.ofNat 16 fm.length

/-- The end of an instruction that does not write `PC`: `pc <- PCn` (R309). -/
def closing (fm : Format) (s : State) : State := s.setPc (s.nextPc fm)

end State

/-- The outcome type of the machine. -/
abbrev Result := Host.Outcome State Fault Refusal

/-- An instruction of format `fm` whose effect does not write `PC` (R309). -/
def straight (fm : Format) (effect : State → State) (s : State) : Result :=
  .next ((effect (s.opening fm)).closing fm)

/-- An instruction of format `fm` whose effect writes `PC` itself (R309, R107). -/
def transfer (fm : Format) (effect : State → State) (s : State) : Result :=
  .next (effect (s.opening fm))

/-- One iteration of a repeating block instruction (R520): while `again` holds after it, `PC` is unchanged and the flags of
`mask` are draws (R523); otherwise `pc <- PCn`. -/
def iteration (mask : Byte) (effect : State → State) (again : State → Bool) (s : State) : Result :=
  let t := effect (s.opening .ed2)
  .next (if again t then t.drawFlags mask else t.closing .ed2)

/-- `raise Fault(kind, info)` (R17, R1501): every component as at the start of the step, `STATUS <- Faulted`. The step's
state is next; the machine then has no further step (R126; log 1). -/
def raise (f : Fault) (s : State) : Result := .next (s.setStatus (.faulted f))

/-! ## Taking an interrupt, and the return from one -/

/-- The entry of an interrupt handler, shared by NMI and the three INT modes (R1510 to R1513): `HALT <- 0`, `R` advances by 1,
`IFF1 <- 0` and `IFF2 <- iff2`, `PC` is pushed and then `target`, read after the push, becomes `PC`; `EI_DELAY <- 0`. Only
`PC` is saved, and on the stack (R1514). -/
def enterHandler (iff2 : Bool) (target : State → Word) (s : State) : State :=
  let s := (s.setHalt false).bump 1
  let s := (s.setIff false iff2).push16 s.cpu.pc
  (s.setPc (target s)).setEiDelay false

/-- The return of RETI and RETN: `pc <- Pop16(); IFF1 <- IFF2` (R1112, R1113). -/
def returnFromHandler (s : State) : State :=
  let s := s.popPc
  s.setIff s.cpu.iff2 s.cpu.iff2

end Sys2Proof.Machine
end

