-- ==== Sys2Proof/Machine/Traps.lean ====
section
/-! DEFINITION. The trap address comparator (49_cpm_traps.md R1310), the exit (R1312) and what the two traps share. -/

namespace Sys2Proof.Machine

/-- What `TrapKind(pc)` answers (R1310). -/
inductive TrapKind where
  | exit
  | bdos
  | bios (slot : Nat)
  | none
deriving DecidableEq, Repr

/-- `TrapKind(pc)` for slots from `base` on (R1310): the offset is an integer, with no wrap. -/
def trapKind (base pc : Word) : TrapKind :=
  if pc = 0x0000#16 then .exit
  else if pc = 0x0005#16 then .bdos
  else if base.toNat ≤ pc.toNat ∧ pc.toNat - base.toNat ≤ 48 ∧ (pc.toNat - base.toNat) % 3 = 0 then
    .bios ((pc.toNat - base.toNat) / 3)
  else .none

/-- The exit (R1312): `STATUS <- Exited` and nothing else (log 18). -/
def exitTrap (s : State) : Result := .next (s.setStatus .exited)

/-- What a BDOS or BIOS function ends in: a state, or a fault with the host as its calls have left it (R1501). -/
inductive TrapResult where
  | done (s : State)
  | fault (f : Fault) (h : HostEnv)
deriving DecidableEq, Repr

/-- The end of a trap (R1313, R1314): `pc <- Pop16()` on the memory the function left, `EI_DELAY <- 0`; a fault leaves every
component of the core as at the start `s` of the step (R1501). -/
def finishTrap (s : State) : TrapResult → Result
  | .done t => .next (t.popPc.setEiDelay false)
  | .fault f h => raise f { s with host := h }

end Sys2Proof.Machine
end

