-- ==== Sys2Proof/Machine/Bdos.lean ====
section
/-! DEFINITION. The BDOS trap and its nineteen functions (49_cpm_traps.md R1302, R1303, R1313, R1320 to R1350). -/

namespace Sys2Proof.Machine

/-! ## Results, names, drives -/

/-- `Result8(v)`: `A` and `L` (R1320). -/
def State.result8 (v : Byte) (s : State) : State := (s.setA v).setReg .l v

/-- A function that ends with `Result8(v)`. -/
def answer (v : Byte) (s : State) : TrapResult := .done (s.result8 v)

/-- A list without its trailing 0x20 bytes (R1302). -/
def trimSpaces : List Byte → List Byte
  | [] => []
  | c :: cs =>
    match trimSpaces cs with
    | [] => if c = 0x20#8 then [] else [c]
    | t => c :: t

/-- `CpmToHost(b[0..10])` (R1302, D44): the bytes as they are, the dot left out where the type is empty. -/
def cpmToHost (b : List Byte) : List Byte :=
  let nm := trimSpaces (b.take 8)
  let ty := trimSpaces (b.drop 8)
  if ty.isEmpty then nm else nm ++ 0x2E#8 :: ty

/-- What stands before and after the last `.`, if there is one (R1302). -/
def splitLastDot : List Byte → Option (List Byte × List Byte)
  | [] => none
  | c :: cs =>
    match splitLastDot cs with
    | some (base, ext) => some (c :: base, ext)
    | none => if c = 0x2E#8 then some ([], cs) else none

/-- `upper`: maps `a`..`z` alone (R1302). -/
def upperByte (c : Byte) : Byte := if 0x61#8 ≤ c ∧ c ≤ 0x7A#8 then c - 0x20#8 else c

/-- A name upper-cased and padded with spaces to `n` bytes (R1302). -/
def padUpper (n : Nat) (s : List Byte) : List Byte := s.map upperByte ++ List.replicate (n - s.length) 0x20#8

/-- `HostToCpm(s)`: the 11 bytes, or `none` for a name CP/M cannot hold (R1302). -/
def hostToCpm (s : List Byte) : Option (List Byte) :=
  let (base, ext) := (splitLastDot s).getD (s, [])
  if base.length > 8 ∨ ext.length > 3 then none else some (padUpper 8 base ++ padUpper 3 ext)

/-- `Letter(d)` (R1303). -/
def driveLetter (d : Fin 16) : Byte := 0x41#8 + BitVec.ofNat 8 d.val

/-- `Drive(db)` (R1303). -/
def driveOf (curDrive : Fin 16) (db : Byte) : Option (Fin 16) :=
  if db = 0x00#8 then some curDrive
  else if h : db.toNat - 1 < 16 then some ⟨db.toNat - 1, h⟩
  else none

/-- The byte at FCB offset `k`, modulo 65536 (R1322, D43). -/
def State.fcbByte (s : State) (k : Nat) : Byte := s.peek (s.de + BitVec.ofNat 16 k)

/-- The drive of the FCB (R1303). -/
def State.fcbDrive (s : State) : Option (Fin 16) := driveOf s.amb.curDrive (s.fcbByte 0)

/-- FCB bytes 1 to 11: name and type, or the filter of a search (R1322, R1340). -/
def State.fcbName (s : State) : List Byte := s.mem.readBytes 11 (s.de + 1)

/-- The handle in the FCB: the word at offset 16 (R1322). -/
def State.fcbHandle (s : State) : Nat := (s.peek16 (s.de + 16)).toNat

/-- `MemWrite(DE + 16, 2, h)` (R1322; log 22). -/
def State.setFcbHandle (h : Nat) (s : State) : State := s.poke16 (s.de + 16) (BitVec.ofNat 16 h)

/-! ## The handle pool (R124) -/

/-- `HANDLES[h]`. -/
def handle? (hs : List (Nat × HandleRec)) (h : Nat) : Option HandleRec := (hs.find? fun p => p.1 == h).map (·.2)

/-- `HANDLES[h] <- r`, the list in rising handle order. -/
def setHandle (h : Nat) (r : HandleRec) : List (Nat × HandleRec) → List (Nat × HandleRec)
  | [] => [(h, r)]
  | (k, q) :: hs =>
    if h < k then (h, r) :: (k, q) :: hs
    else if h = k then (h, r) :: hs
    else (k, q) :: setHandle h r hs

/-- `remove h from HANDLES`. -/
def dropHandle (h : Nat) (hs : List (Nat × HandleRec)) : List (Nat × HandleRec) := hs.filter fun p => p.1 != h

/-- The least integer of `k, k+1, …`, `n` of them, that is not in `HANDLES` (R1338). -/
def leastFree (hs : List (Nat × HandleRec)) : Nat → Nat → Option Nat
  | 0, _ => none
  | n + 1, k => if (handle? hs k).isSome then leastFree hs n (k + 1) else some k

/-- The least free handle of the pool `1..MAX_OPEN_FILES` (R1338). -/
def State.freeHandle (s : State) : Option Nat := leastFree s.amb.handles s.cfg.maxOpenFiles 1

/-- The end of F_OPEN and F_MAKE once the host has answered `fid` (R1338, R1346). -/
def takeHandle (d : Fin 16) (name : List Byte) (fid : Nat) (s : State) : TrapResult :=
  match s.freeHandle with
  | none => answer 0xFF#8 (s.withHost fun h => (h.closeFile fid).2)
  | some h =>
    let s := s.withAmb fun a =>
      { a with handles := setHandle h { drive := d, hostName := name, pos := 0, fid := fid } a.handles }
    answer 0x00#8 (s.setFcbHandle h)

/-! ## DMA transfers (R1321) -/

/-- A transfer of `len` bytes at `DMA` would pass 0xFFFF. -/
def State.dmaTooLong (s : State) (len : Nat) : Bool := decide (s.amb.dma.toNat + len > 0x10000)

/-- The fault of such a transfer. -/
def State.dmaFault (s : State) (len : Nat) : Fault := .dmaOverflow 0x0005#16 s.amb.dma len

/-- `DmaWrite(bytes)` then the rest of the function. -/
def dmaWrite (bytes : List Byte) (s : State) (rest : State → TrapResult) : TrapResult :=
  if s.dmaTooLong bytes.length then .fault (s.dmaFault bytes.length) s.host
  else rest (s.pokeBytes s.amb.dma bytes)

/-! ## Console functions -/

/-- `ConsoleIOError` of a BDOS call (R1301). -/
def bdosConsoleError : Fault := .consoleIOError 0x0005#16

/-- C_READ, 0x01 (R1330). -/
def bdosConIn (s : State) : TrapResult :=
  match s.host.conRead with
  | (none, h) => .fault bdosConsoleError h
  | (some v, h) =>
    match h.conWrite v with
    | (false, h) => .fault bdosConsoleError h
    | (true, h) => answer v { s with host := h }

/-- C_WRITE, 0x02 (R1331). -/
def bdosConOut (s : State) : TrapResult :=
  match s.host.conWrite s.cpu.e with
  | (false, h) => .fault bdosConsoleError h
  | (true, h) => .done { s with host := h }

/-- The bytes from `a` up to the first `$`, among the next `n` bytes, addresses modulo 65536 (R1332). -/
def stringAt (m : Memory) : Nat → Word → Option (List Byte)
  | 0, _ => none
  | n + 1, a => if m.read a = 0x24#8 then some [] else (stringAt m n (a + 1)).map (m.read a :: ·)

/-- C_WRITESTR, 0x09 (R1332, D34). -/
def bdosWriteStr (s : State) : TrapResult :=
  match stringAt s.mem 65536 s.de with
  | none => .fault (.unterminatedString 0x0005#16 s.de) s.host
  | some str =>
    match s.host.conWriteAll str with
    | (false, h) => .fault bdosConsoleError h
    | (true, h) => .done { s with host := h }

/-- C_READSTR, 0x0A (R1333). -/
def bdosReadStr (s : State) : TrapResult :=
  match s.host.conReadLine with
  | (none, h) => .fault bdosConsoleError h
  | (some line, h) =>
    let line := line.take (s.peek s.de).toNat
    let s := s.poke (s.de + 1) (BitVec.ofNat 8 line.length)
    .done { s.pokeBytes (s.de + 2) line with host := h }

/-- C_STAT, 0x0B (R1334). -/
def bdosConStat (s : State) : TrapResult :=
  let (ready, h) := s.host.conReady
  answer (if ready then 0xFF#8 else 0x00#8) { s with host := h }

/-! ## System and drive functions -/

/-- S_BDOSVER, 0x0C (R1335): `HL <- 0x0022`, `A` mirrors `L`, `B` mirrors `H`. -/
def bdosVersion (s : State) : TrapResult := .done (((s.setHl 0x0022#16).setA 0x22#8).setB 0x00#8)

/-- DRV_ALLRESET, 0x0D (R1336). -/
def bdosReset (s : State) : TrapResult :=
  answer 0x00#8 (s.withAmb fun a => { a with curDrive := 0, dma := 0x0080#16 })

/-- DRV_SET, 0x0E (R1337). -/
def bdosSelect (s : State) : TrapResult :=
  if h : s.cpu.e.toNat < 16 then
    let d : Fin 16 := ⟨s.cpu.e.toNat, h⟩
    if s.host.dirExists (driveLetter d) then answer 0x00#8 (s.withAmb fun a => { a with curDrive := d })
    else answer 0xFF#8 s
  else answer 0xFF#8 s

/-- DRV_GET, 0x19 (R1347). -/
def bdosCurrent (s : State) : TrapResult := answer (BitVec.ofNat 8 s.amb.curDrive.val) s

/-- F_DMAOFF, 0x1A (R1348). -/
def bdosSetDma (s : State) : TrapResult := .done (s.withAmb fun a => { a with dma := s.de })

/-- F_USERNUM, 0x20 (R1349). -/
def bdosUser (s : State) : TrapResult :=
  if s.cpu.e = 0xFF#8 then answer (BitVec.ofNat 8 s.amb.curUser.val) s
  else .done (s.withAmb fun a => { a with curUser := (s.cpu.e.extractLsb' 0 5).toFin })

/-! ## File functions -/

/-- F_OPEN, 0x0F (R1338, D42). -/
def bdosOpen (s : State) : TrapResult :=
  match s.fcbDrive with
  | none => answer 0xFF#8 s
  | some d =>
    let name := cpmToHost s.fcbName
    match s.host.openFile (driveLetter d) name with
    | (none, h) => answer 0xFF#8 { s with host := h }
    | (some fid, h) => takeHandle d name fid { s with host := h }

/-- F_CLOSE, 0x10 (R1339, D56). -/
def bdosClose (s : State) : TrapResult :=
  let h := s.fcbHandle
  match handle? s.amb.handles h with
  | none => answer 0xFF#8 s
  | some r =>
    match s.host.closeFile r.fid with
    | (false, e) => answer 0xFF#8 { s with host := e }
    | (true, e) =>
      let s := { s with host := e }
      answer 0x00#8 ((s.withAmb fun a => { a with handles := dropHandle h a.handles }).setFcbHandle 0)

/-- A filter byte `?` or equal bytes, place by place (R1340, D31). -/
def matchesFilter : List Byte → List Byte → Bool
  | f :: fs, c :: cs => (f == 0x3F#8 || f == c) && matchesFilter fs cs
  | _, _ => true

/-- The matches among host names, in listing order: the host name and its CP/M name (R1340). -/
def matchesOf (filt : List Byte) (names : List (List Byte)) : List (List Byte × List Byte) :=
  names.filterMap fun n =>
    match hostToCpm n with
    | some c => if matchesFilter filt c then some (n, c) else none
    | none => none

/-- `Image(db, c)`: the 32-byte directory image (R1340, D30). -/
def dirImage (db : Byte) (c : List Byte) : List Byte := db :: c ++ List.replicate 20 0x00#8

/-- F_SFIRST, 0x11 (R1341). -/
def bdosSearchFirst (s : State) : TrapResult :=
  let db := s.fcbByte 0
  match s.fcbDrive with
  | none => answer 0xFF#8 s
  | some d =>
    let filt := s.fcbName
    match s.host.listDir (driveLetter d) with
    | (none, h) => answer 0xFF#8 { s with host := h }
    | (some names, h) =>
      match matchesOf filt names with
      | [] => answer 0xFF#8 { s with host := h }
      | m :: ms =>
        dmaWrite (dirImage db m.2) { s with host := h } fun s =>
          answer 0x00#8 (s.withAmb fun a =>
            { a with search := some { driveByte := db, drive := d, filter := filt, remaining := ms.map (·.2) } })

/-- F_SNEXT, 0x12 (R1342). -/
def bdosSearchNext (s : State) : TrapResult :=
  match s.amb.search with
  | none => answer 0xFF#8 s
  | some it =>
    match it.remaining with
    | [] => answer 0xFF#8 (s.withAmb fun a => { a with search := none })
    | c :: cs =>
      dmaWrite (dirImage it.driveByte c) s fun s =>
        answer 0x00#8 (s.withAmb fun a => { a with search := some { it with remaining := cs } })

/-- `Host.remove` of each name in order: how many answered `Ok` (R1343). -/
def removeAll (letter : Byte) : List (List Byte) → HostEnv → Nat × HostEnv
  | [], h => (0, h)
  | n :: ns, h =>
    let (ok, h) := h.removeFile letter n
    let (count, h) := removeAll letter ns h
    (if ok then count + 1 else count, h)

/-- F_DELETE, 0x13 (R1343, D45). -/
def bdosDelete (s : State) : TrapResult :=
  match s.fcbDrive with
  | none => answer 0xFF#8 s
  | some d =>
    match s.host.listDir (driveLetter d) with
    | (none, h) => answer 0xFF#8 { s with host := h }
    | (some names, h) =>
      let (count, h) := removeAll (driveLetter d) ((matchesOf s.fcbName names).map (·.1)) h
      answer (if count > 0 then 0x00#8 else 0xFF#8) { s with host := h }

/-- `HANDLES[h].pos <- HANDLES[h].pos + k`. -/
def State.advance (h : Nat) (r : HandleRec) (k : Nat) (s : State) : State :=
  s.withAmb fun a => { a with handles := setHandle h { r with pos := r.pos + k } a.handles }

/-- The result byte of F_READ for `k` bytes read (R1344, D27). -/
def readResult (partialResult : Byte) (k : Nat) : Byte :=
  if k = 128 then 0x00#8 else if k > 0 then partialResult else 0x01#8

/-- F_READ, 0x14 (R1344): the overflow check comes before the host read. -/
def bdosRead (s : State) : TrapResult :=
  let h := s.fcbHandle
  match handle? s.amb.handles h with
  | none => answer 0xFF#8 s
  | some r =>
    if s.dmaTooLong 128 then .fault (s.dmaFault 128) s.host
    else
      match s.host.readFile r.fid r.pos with
      | (none, e) => answer 0xFF#8 { s with host := e }
      | (some data, e) =>
        let s := { s with host := e }
        let s := s.pokeBytes s.amb.dma (data ++ List.replicate (128 - data.length) 0x00#8)
        answer (readResult s.cfg.partialRecordResult data.length) (s.advance h r data.length)

/-- F_WRITE, 0x15 (R1345): the record is read with the normal wrap (R1321). -/
def bdosWrite (s : State) : TrapResult :=
  let h := s.fcbHandle
  match handle? s.amb.handles h with
  | none => answer 0xFF#8 s
  | some r =>
    match s.host.writeFile r.fid r.pos (s.mem.readBytes 128 s.amb.dma) with
    | (false, e) => answer 0xFF#8 { s with host := e }
    | (true, e) => answer 0x00#8 (State.advance h r 128 { s with host := e })

/-- F_MAKE, 0x16 (R1346, D42). -/
def bdosMake (s : State) : TrapResult :=
  match s.fcbDrive with
  | none => answer 0xFF#8 s
  | some d =>
    let name := cpmToHost s.fcbName
    if s.host.fileExists (driveLetter d) name then answer 0xFF#8 s
    else
      match s.host.createFile (driveLetter d) name with
      | (none, h) => answer 0xFF#8 { s with host := h }
      | (some fid, h) => takeHandle d name fid { s with host := h }

/-! ## The trap -/

/-- The supported functions (R1313, R1351); `none` for every other number (R1350). -/
def bdosFunction (f : Byte) : Option (State → TrapResult) :=
  match f.toNat with
  | 0x01 => some bdosConIn
  | 0x02 => some bdosConOut
  | 0x09 => some bdosWriteStr
  | 0x0A => some bdosReadStr
  | 0x0B => some bdosConStat
  | 0x0C => some bdosVersion
  | 0x0D => some bdosReset
  | 0x0E => some bdosSelect
  | 0x0F => some bdosOpen
  | 0x10 => some bdosClose
  | 0x11 => some bdosSearchFirst
  | 0x12 => some bdosSearchNext
  | 0x13 => some bdosDelete
  | 0x14 => some bdosRead
  | 0x15 => some bdosWrite
  | 0x16 => some bdosMake
  | 0x19 => some bdosCurrent
  | 0x1A => some bdosSetDma
  | 0x20 => some bdosUser
  | _ => none

/-- `SEARCH <- None` unless the function is F_SNEXT (R1313, D51). -/
def invalidateSearch (f : Byte) (s : State) : State :=
  if f = 0x12#8 then s else s.withAmb fun a => { a with search := none }

/-- `BdosTrap()` (R1313, D54). -/
def bdosTrap (s : State) : Result :=
  match bdosFunction s.cpu.c with
  | none => raise (.unsupportedBdosFunction 0x0005#16 s.cpu.c) s
  | some run => finishTrap s (run (invalidateSearch s.cpu.c s))

end Sys2Proof.Machine
end

