-- ==== Sys2Proof/Machine/Bios.lean ====
section
/-! DEFINITION. The BIOS trap and its four functions (49_cpm_traps.md R1314, R1380 to R1385). -/

namespace Sys2Proof.Machine

/-- CONST, slot 2 (R1381): `L` unchanged. -/
def biosConst (s : State) : TrapResult :=
  let (ready, h) := s.host.conReady
  .done ({ s with host := h }.setA (if ready then 0xFF#8 else 0x00#8))

/-- CONIN, slot 3 (R1382): no echo. -/
def biosConIn (s : State) : TrapResult :=
  match s.host.conRead with
  | (none, h) => .fault (.consoleIOError s.cpu.pc) h
  | (some v, h) => .done ({ s with host := h }.setA v)

/-- CONOUT, slot 4, and LIST, slot 5 (R1383, R1384, D35): `C` to stdout. -/
def biosOut (s : State) : TrapResult :=
  match s.host.conWrite s.cpu.c with
  | (false, h) => .fault (.consoleIOError s.cpu.pc) h
  | (true, h) => .done { s with host := h }

/-- The serviced slots (R1380 to R1385). -/
def biosFunction : Nat → Option (State → TrapResult)
  | 2 => some biosConst
  | 3 => some biosConIn
  | 4 => some biosOut
  | 5 => some biosOut
  | _ => none

/-- `BiosTrap(i)` (R1314). -/
def biosTrap (slot : Nat) (s : State) : Result :=
  match biosFunction slot with
  | none => raise (.unsupportedBiosFunction s.cpu.pc slot) s
  | some run => finishTrap s (run s)

end Sys2Proof.Machine
end

