-- ==== Sys2Proof/Machine/Operands.lean ====
section
/-!
DEFINITION. The operand forms of the spec: register, immediate, `(HL)`, `(XY+d)` and index half (R603, R604, R906), the
direct and register-indirect addresses of the loads (R400), bit masks (R308), conditions and relative targets (R1100).
-/

namespace Sys2Proof.Machine

namespace State

/-- The indexed address `ea = (x[XY] + sext_8(d)) mod 65536` (R18, R308). -/
def ea (s : State) (x : XY) (d : Byte) : Word := s.xy x + sext d

/-- The byte at `HL`. -/
def atHl (s : State) : Byte := s.peek s.hl

/-- The byte at `XY + d`. -/
def atXy (s : State) (x : XY) (d : Byte) : Byte := s.peek (s.ea x d)

/-- Read, change and write a register, with the flags of the change (R604, R605, R906). -/
def onReg (r : Reg8) (f : Byte → Byte × Flags) (s : State) : State :=
  (s.setReg r (f (s.reg r)).1).setFlags (f (s.reg r)).2

/-- Read, change and write the byte at `a`, with the flags of the change (R651, R906). -/
def onMem (a : Word) (f : Byte → Byte × Flags) (s : State) : State :=
  (s.poke a (f (s.peek a)).1).setFlags (f (s.peek a)).2

/-- Read, change and write an index half, with the flags of the change (R653). -/
def onHalf (x : XY) (h : Half) (f : Byte → Byte × Flags) (s : State) : State :=
  (s.setHalf x h (f (s.half x h)).1).setFlags (f (s.half x h)).2

/-- Change `A` and the flags together. -/
def onA (f : Byte → Byte × Flags) (s : State) : State := (s.setA (f s.cpu.a).1).setFlags (f s.cpu.a).2

/-- The relative target `(PC + 2 + sext_8(e)) mod 65536` of JR and DJNZ, `PC` the instruction's address (R1100). -/
def relTarget (s : State) (e : Byte) : Word := s.nextPc .u2e + sext e

end State

/-- `1 << b` (R308). -/
def bitMask (b : Fin 8) : Byte := 1#8 <<< b.val

/-- `Cond(cc)` (R306, R1100). -/
def condHolds (fl : Flags) : Cond → Bool
  | .nz => !fl.z
  | .z => fl.z
  | .nc => !fl.c
  | .c => fl.c
  | .po => !fl.pv
  | .pe => fl.pv
  | .p => !fl.s
  | .m => fl.s

/-- `Cond(cc)` for the four conditions of JR (R306, R1104). -/
def jrCondHolds (fl : Flags) : JrCond → Bool
  | .nz => !fl.z
  | .z => fl.z
  | .nc => !fl.c
  | .c => fl.c

end Sys2Proof.Machine
end

