-- ==== Sys2Proof/Machine/Alu16.lean ====
section
/-! DEFINITION. The 16-bit arithmetic of 44_alu16.md (R800 to R807). -/

namespace Sys2Proof.Machine

/-- `HL <- Add16(HL, v)` (R800, R820). -/
def addHl (v : Word) (s : State) : State :=
  (s.setHl (add16 s.flags s.hl v).1).setFlags (add16 s.flags s.hl v).2

/-- `XY <- Add16(XY, v)` (R803, R820). -/
def addXy (x : XY) (v : Word) (s : State) : State :=
  (s.setXy x (add16 s.flags (s.xy x) v).1).setFlags (add16 s.flags (s.xy x) v).2

/-- `ADD HL,ss` (R800). -/
def execAddHlSs (p : Pair) (s : State) : Result :=
  straight .u1 (fun s => addHl (s.pair p) s) s

/-- `ADC HL,ss` (R801). -/
def execAdcHlSs (p : Pair) (s : State) : Result :=
  straight .ed2 (fun s => (s.setHl (adc16 s.hl (s.pair p) s.carry).1).setFlags (adc16 s.hl (s.pair p) s.carry).2) s

/-- `SBC HL,ss` (R802). -/
def execSbcHlSs (p : Pair) (s : State) : Result :=
  straight .ed2 (fun s => (s.setHl (sbc16 s.hl (s.pair p) s.carry).1).setFlags (sbc16 s.hl (s.pair p) s.carry).2) s

/-- `ADD IX,pp` (R803). -/
def execAddIxPp (p : PairX) (s : State) : Result :=
  straight .xy2 (fun s => addXy .ix (s.pairX .ix p) s) s

/-- `ADD IY,pp` (R803). -/
def execAddIyPp (p : PairX) (s : State) : Result :=
  straight .xy2 (fun s => addXy .iy (s.pairX .iy p) s) s

/-- `INC ss` (R804). -/
def execIncSs (p : Pair) (s : State) : Result :=
  straight .u1 (fun s => s.setPair p (s.pair p + 1)) s

/-- `INC IX` (R805). -/
def execIncIx (s : State) : Result :=
  straight .xy2 (fun s => s.setXy .ix (s.xy .ix + 1)) s

/-- `INC IY` (R805). -/
def execIncIy (s : State) : Result :=
  straight .xy2 (fun s => s.setXy .iy (s.xy .iy + 1)) s

/-- `DEC ss` (R806). -/
def execDecSs (p : Pair) (s : State) : Result :=
  straight .u1 (fun s => s.setPair p (s.pair p - 1)) s

/-- `DEC IX` (R807). -/
def execDecIx (s : State) : Result :=
  straight .xy2 (fun s => s.setXy .ix (s.xy .ix - 1)) s

/-- `DEC IY` (R807). -/
def execDecIy (s : State) : Result :=
  straight .xy2 (fun s => s.setXy .iy (s.xy .iy - 1)) s

end Sys2Proof.Machine
end

