-- ==== Sys2Proof/Machine/Alu8.lean ====
section
/-! DEFINITION. The 8-bit operations of 42_alu8.md: eight operations in five operand forms (R603, R610 to R649), and INC and DEC on
8-bit operands (R650 to R657). None raises a fault. -/

namespace Sys2Proof.Machine

/-- `A` and all the flags from the result of an operation. -/
def State.setAcc (s : State) (r : Byte × Flags) : State := (s.setA r.1).setFlags r.2

/-- ADD of `v` to `A` (R600). -/
def accAdd (v : Byte) (s : State) : State := s.setAcc (add8 s.cpu.a v false)

/-- ADC of `v` to `A` (R600). -/
def accAdc (v : Byte) (s : State) : State := s.setAcc (add8 s.cpu.a v s.carry)

/-- SUB of `v` from `A` (R601). -/
def accSub (v : Byte) (s : State) : State := s.setAcc (sub8 s.cpu.a v false)

/-- SBC of `v` from `A` (R601). -/
def accSbc (v : Byte) (s : State) : State := s.setAcc (sub8 s.cpu.a v s.carry)

/-- AND of `A` and `v` (R602 with H = 1). -/
def accAnd (v : Byte) (s : State) : State := s.setAcc (logic (s.cpu.a &&& v) true)

/-- XOR of `A` and `v` (R602 with H = 0). -/
def accXor (v : Byte) (s : State) : State := s.setAcc (logic (s.cpu.a ^^^ v) false)

/-- OR of `A` and `v` (R602 with H = 0). -/
def accOr (v : Byte) (s : State) : State := s.setAcc (logic (s.cpu.a ||| v) false)

/-- CP of `A` and `v`: the flags alone (R606). -/
def accCp (v : Byte) (s : State) : State := s.setFlags (compare8 s.cpu.a v)

/-- `ADD A,r` (R610). -/
def execAddR (r : Reg8) (s : State) : Result :=
  straight .u1 (fun s => accAdd (s.reg r) s) s

/-- `ADD A,n` (R611). -/
def execAddN (n : Byte) (s : State) : Result :=
  straight .u2n (fun s => accAdd n s) s

/-- `ADD A,(HL)` (R612). -/
def execAddHl (s : State) : Result :=
  straight .u1 (fun s => accAdd s.atHl s) s

/-- `ADD A,(IX+d)` (R613). -/
def execAddIxd (d : Byte) (s : State) : Result :=
  straight .xy3d (fun s => accAdd (s.atXy .ix d) s) s

/-- `ADD A,(IY+d)` (R613). -/
def execAddIyd (d : Byte) (s : State) : Result :=
  straight .xy3d (fun s => accAdd (s.atXy .iy d) s) s

/-- `ADD A,IXH / IXL` (R614). -/
def execAddIxh (h : Half) (s : State) : Result :=
  straight .xy2 (fun s => accAdd (s.half .ix h) s) s

/-- `ADD A,IYH / IYL` (R614). -/
def execAddIyh (h : Half) (s : State) : Result :=
  straight .xy2 (fun s => accAdd (s.half .iy h) s) s

/-- `ADC A,r` (R615). -/
def execAdcR (r : Reg8) (s : State) : Result :=
  straight .u1 (fun s => accAdc (s.reg r) s) s

/-- `ADC A,n` (R616). -/
def execAdcN (n : Byte) (s : State) : Result :=
  straight .u2n (fun s => accAdc n s) s

/-- `ADC A,(HL)` (R617). -/
def execAdcHl (s : State) : Result :=
  straight .u1 (fun s => accAdc s.atHl s) s

/-- `ADC A,(IX+d)` (R618). -/
def execAdcIxd (d : Byte) (s : State) : Result :=
  straight .xy3d (fun s => accAdc (s.atXy .ix d) s) s

/-- `ADC A,(IY+d)` (R618). -/
def execAdcIyd (d : Byte) (s : State) : Result :=
  straight .xy3d (fun s => accAdc (s.atXy .iy d) s) s

/-- `ADC A,IXH / IXL` (R619). -/
def execAdcIxh (h : Half) (s : State) : Result :=
  straight .xy2 (fun s => accAdc (s.half .ix h) s) s

/-- `ADC A,IYH / IYL` (R619). -/
def execAdcIyh (h : Half) (s : State) : Result :=
  straight .xy2 (fun s => accAdc (s.half .iy h) s) s

/-- `SUB r` (R620). -/
def execSubR (r : Reg8) (s : State) : Result :=
  straight .u1 (fun s => accSub (s.reg r) s) s

/-- `SUB n` (R621). -/
def execSubN (n : Byte) (s : State) : Result :=
  straight .u2n (fun s => accSub n s) s

/-- `SUB (HL)` (R622). -/
def execSubHl (s : State) : Result :=
  straight .u1 (fun s => accSub s.atHl s) s

/-- `SUB (IX+d)` (R623). -/
def execSubIxd (d : Byte) (s : State) : Result :=
  straight .xy3d (fun s => accSub (s.atXy .ix d) s) s

/-- `SUB (IY+d)` (R623). -/
def execSubIyd (d : Byte) (s : State) : Result :=
  straight .xy3d (fun s => accSub (s.atXy .iy d) s) s

/-- `SUB IXH / IXL` (R624). -/
def execSubIxh (h : Half) (s : State) : Result :=
  straight .xy2 (fun s => accSub (s.half .ix h) s) s

/-- `SUB IYH / IYL` (R624). -/
def execSubIyh (h : Half) (s : State) : Result :=
  straight .xy2 (fun s => accSub (s.half .iy h) s) s

/-- `SBC A,r` (R625). -/
def execSbcR (r : Reg8) (s : State) : Result :=
  straight .u1 (fun s => accSbc (s.reg r) s) s

/-- `SBC A,n` (R626). -/
def execSbcN (n : Byte) (s : State) : Result :=
  straight .u2n (fun s => accSbc n s) s

/-- `SBC A,(HL)` (R627). -/
def execSbcHl (s : State) : Result :=
  straight .u1 (fun s => accSbc s.atHl s) s

/-- `SBC A,(IX+d)` (R628). -/
def execSbcIxd (d : Byte) (s : State) : Result :=
  straight .xy3d (fun s => accSbc (s.atXy .ix d) s) s

/-- `SBC A,(IY+d)` (R628). -/
def execSbcIyd (d : Byte) (s : State) : Result :=
  straight .xy3d (fun s => accSbc (s.atXy .iy d) s) s

/-- `SBC A,IXH / IXL` (R629). -/
def execSbcIxh (h : Half) (s : State) : Result :=
  straight .xy2 (fun s => accSbc (s.half .ix h) s) s

/-- `SBC A,IYH / IYL` (R629). -/
def execSbcIyh (h : Half) (s : State) : Result :=
  straight .xy2 (fun s => accSbc (s.half .iy h) s) s

/-- `AND r` (R630). -/
def execAndR (r : Reg8) (s : State) : Result :=
  straight .u1 (fun s => accAnd (s.reg r) s) s

/-- `AND n` (R631). -/
def execAndN (n : Byte) (s : State) : Result :=
  straight .u2n (fun s => accAnd n s) s

/-- `AND (HL)` (R632). -/
def execAndHl (s : State) : Result :=
  straight .u1 (fun s => accAnd s.atHl s) s

/-- `AND (IX+d)` (R633). -/
def execAndIxd (d : Byte) (s : State) : Result :=
  straight .xy3d (fun s => accAnd (s.atXy .ix d) s) s

/-- `AND (IY+d)` (R633). -/
def execAndIyd (d : Byte) (s : State) : Result :=
  straight .xy3d (fun s => accAnd (s.atXy .iy d) s) s

/-- `AND IXH / IXL` (R634). -/
def execAndIxh (h : Half) (s : State) : Result :=
  straight .xy2 (fun s => accAnd (s.half .ix h) s) s

/-- `AND IYH / IYL` (R634). -/
def execAndIyh (h : Half) (s : State) : Result :=
  straight .xy2 (fun s => accAnd (s.half .iy h) s) s

/-- `XOR r` (R635). -/
def execXorR (r : Reg8) (s : State) : Result :=
  straight .u1 (fun s => accXor (s.reg r) s) s

/-- `XOR n` (R636). -/
def execXorN (n : Byte) (s : State) : Result :=
  straight .u2n (fun s => accXor n s) s

/-- `XOR (HL)` (R637). -/
def execXorHl (s : State) : Result :=
  straight .u1 (fun s => accXor s.atHl s) s

/-- `XOR (IX+d)` (R638). -/
def execXorIxd (d : Byte) (s : State) : Result :=
  straight .xy3d (fun s => accXor (s.atXy .ix d) s) s

/-- `XOR (IY+d)` (R638). -/
def execXorIyd (d : Byte) (s : State) : Result :=
  straight .xy3d (fun s => accXor (s.atXy .iy d) s) s

/-- `XOR IXH / IXL` (R639). -/
def execXorIxh (h : Half) (s : State) : Result :=
  straight .xy2 (fun s => accXor (s.half .ix h) s) s

/-- `XOR IYH / IYL` (R639). -/
def execXorIyh (h : Half) (s : State) : Result :=
  straight .xy2 (fun s => accXor (s.half .iy h) s) s

/-- `OR r` (R640). -/
def execOrR (r : Reg8) (s : State) : Result :=
  straight .u1 (fun s => accOr (s.reg r) s) s

/-- `OR n` (R641). -/
def execOrN (n : Byte) (s : State) : Result :=
  straight .u2n (fun s => accOr n s) s

/-- `OR (HL)` (R642). -/
def execOrHl (s : State) : Result :=
  straight .u1 (fun s => accOr s.atHl s) s

/-- `OR (IX+d)` (R643). -/
def execOrIxd (d : Byte) (s : State) : Result :=
  straight .xy3d (fun s => accOr (s.atXy .ix d) s) s

/-- `OR (IY+d)` (R643). -/
def execOrIyd (d : Byte) (s : State) : Result :=
  straight .xy3d (fun s => accOr (s.atXy .iy d) s) s

/-- `OR IXH / IXL` (R644). -/
def execOrIxh (h : Half) (s : State) : Result :=
  straight .xy2 (fun s => accOr (s.half .ix h) s) s

/-- `OR IYH / IYL` (R644). -/
def execOrIyh (h : Half) (s : State) : Result :=
  straight .xy2 (fun s => accOr (s.half .iy h) s) s

/-- `CP r` (R645). -/
def execCpR (r : Reg8) (s : State) : Result :=
  straight .u1 (fun s => accCp (s.reg r) s) s

/-- `CP n` (R646). -/
def execCpN (n : Byte) (s : State) : Result :=
  straight .u2n (fun s => accCp n s) s

/-- `CP (HL)` (R647). -/
def execCpHl (s : State) : Result :=
  straight .u1 (fun s => accCp s.atHl s) s

/-- `CP (IX+d)` (R648). -/
def execCpIxd (d : Byte) (s : State) : Result :=
  straight .xy3d (fun s => accCp (s.atXy .ix d) s) s

/-- `CP (IY+d)` (R648). -/
def execCpIyd (d : Byte) (s : State) : Result :=
  straight .xy3d (fun s => accCp (s.atXy .iy d) s) s

/-- `CP IXH / IXL` (R649). -/
def execCpIxh (h : Half) (s : State) : Result :=
  straight .xy2 (fun s => accCp (s.half .ix h) s) s

/-- `CP IYH / IYL` (R649). -/
def execCpIyh (h : Half) (s : State) : Result :=
  straight .xy2 (fun s => accCp (s.half .iy h) s) s

/-- `INC r` (R650). -/
def execIncR (r : Reg8) (s : State) : Result :=
  straight .u1 (fun s => s.onReg r (inc8 s.flags)) s

/-- `INC (HL)` (R651). -/
def execIncHl (s : State) : Result :=
  straight .u1 (fun s => s.onMem s.hl (inc8 s.flags)) s

/-- `INC (IX+d)` (R652). -/
def execIncIxd (d : Byte) (s : State) : Result :=
  straight .xy3d (fun s => s.onMem (s.ea .ix d) (inc8 s.flags)) s

/-- `INC (IY+d)` (R652). -/
def execIncIyd (d : Byte) (s : State) : Result :=
  straight .xy3d (fun s => s.onMem (s.ea .iy d) (inc8 s.flags)) s

/-- `INC IXH / INC IXL` (R653). -/
def execIncIxh (h : Half) (s : State) : Result :=
  straight .xy2 (fun s => s.onHalf .ix h (inc8 s.flags)) s

/-- `INC IYH / INC IYL` (R653). -/
def execIncIyh (h : Half) (s : State) : Result :=
  straight .xy2 (fun s => s.onHalf .iy h (inc8 s.flags)) s

/-- `DEC r` (R654). -/
def execDecR (r : Reg8) (s : State) : Result :=
  straight .u1 (fun s => s.onReg r (dec8 s.flags)) s

/-- `DEC (HL)` (R655). -/
def execDecHl (s : State) : Result :=
  straight .u1 (fun s => s.onMem s.hl (dec8 s.flags)) s

/-- `DEC (IX+d)` (R656). -/
def execDecIxd (d : Byte) (s : State) : Result :=
  straight .xy3d (fun s => s.onMem (s.ea .ix d) (dec8 s.flags)) s

/-- `DEC (IY+d)` (R656). -/
def execDecIyd (d : Byte) (s : State) : Result :=
  straight .xy3d (fun s => s.onMem (s.ea .iy d) (dec8 s.flags)) s

/-- `DEC IXH / DEC IXL` (R657). -/
def execDecIxh (h : Half) (s : State) : Result :=
  straight .xy2 (fun s => s.onHalf .ix h (dec8 s.flags)) s

/-- `DEC IYH / DEC IYL` (R657). -/
def execDecIyh (h : Half) (s : State) : Result :=
  straight .xy2 (fun s => s.onHalf .iy h (dec8 s.flags)) s

end Sys2Proof.Machine
end

