-- ==== Sys2Proof/Machine/Bit.lean ====
section
/-! DEFINITION. BIT, SET and RES of 46_bit.md (R1000 to R1009). -/

namespace Sys2Proof.Machine

/-- `BIT b,r` (R1001). -/
def execBitBR (b : Fin 8) (r : Reg8) (s : State) : Result :=
  straight .cb2 (fun s => s.setFlags (bitTest s.flags b (s.reg r) (s.reg r))) s

/-- `BIT b,(HL)` (R1002): X and Y are a draw (D15, log 11). -/
def execBitBHl (b : Fin 8) (s : State) : Result :=
  straight .cb2 (fun s => (s.setFlags (bitTest s.flags b s.atHl s.drawn)).afterDraw) s

/-- `BIT b,(IX+d)` (R1003): X and Y from the high byte of `ea`. -/
def execBitBIxd (d : Byte) (b : Fin 8) (s : State) : Result :=
  straight .xycb4 (fun s => s.setFlags (bitTest s.flags b (s.atXy .ix d) (hi8 (s.ea .ix d)))) s

/-- `BIT b,(IY+d)` (R1003): X and Y from the high byte of `ea`. -/
def execBitBIyd (d : Byte) (b : Fin 8) (s : State) : Result :=
  straight .xycb4 (fun s => s.setFlags (bitTest s.flags b (s.atXy .iy d) (hi8 (s.ea .iy d)))) s

/-- `SET b,r` (R1004). -/
def execSetBR (b : Fin 8) (r : Reg8) (s : State) : Result :=
  straight .cb2 (fun s => s.setReg r (s.reg r ||| bitMask b)) s

/-- `SET b,(HL)` (R1005). -/
def execSetBHl (b : Fin 8) (s : State) : Result :=
  straight .cb2 (fun s => s.poke s.hl (s.atHl ||| bitMask b)) s

/-- `SET b,(IX+d)` (R1006). -/
def execSetBIxd (d : Byte) (b : Fin 8) (s : State) : Result :=
  straight .xycb4 (fun s => s.poke (s.ea .ix d) (s.atXy .ix d ||| bitMask b)) s

/-- `SET b,(IY+d)` (R1006). -/
def execSetBIyd (d : Byte) (b : Fin 8) (s : State) : Result :=
  straight .xycb4 (fun s => s.poke (s.ea .iy d) (s.atXy .iy d ||| bitMask b)) s

/-- `RES b,r` (R1007). -/
def execResBR (b : Fin 8) (r : Reg8) (s : State) : Result :=
  straight .cb2 (fun s => s.setReg r (s.reg r &&& ~~~bitMask b)) s

/-- `RES b,(HL)` (R1008). -/
def execResBHl (b : Fin 8) (s : State) : Result :=
  straight .cb2 (fun s => s.poke s.hl (s.atHl &&& ~~~bitMask b)) s

/-- `RES b,(IX+d)` (R1009). -/
def execResBIxd (d : Byte) (b : Fin 8) (s : State) : Result :=
  straight .xycb4 (fun s => s.poke (s.ea .ix d) (s.atXy .ix d &&& ~~~bitMask b)) s

/-- `RES b,(IY+d)` (R1009). -/
def execResBIyd (d : Byte) (b : Fin 8) (s : State) : Result :=
  straight .xycb4 (fun s => s.poke (s.ea .iy d) (s.atXy .iy d &&& ~~~bitMask b)) s

end Sys2Proof.Machine
end

