-- ==== Sys2Proof/Machine/Control.lean ====
section
/-! DEFINITION. DAA, CPL, NEG, CCF, SCF, NOP, HALT, DI, EI and IM of 43_general_cpu_control.md (R700 to R711). -/

namespace Sys2Proof.Machine

/-- `DAA` (R700). -/
def execDaa (s : State) : Result :=
  straight .u1 (fun s => s.onA (daa s.flags)) s

/-- `CPL` (R701). -/
def execCpl (s : State) : Result :=
  straight .u1 (fun s => s.onA (cpl s.flags)) s

/-- `NEG` (R702). -/
def execNeg (s : State) : Result :=
  straight .ed2 (fun s => s.onA (fun a => sub8 0 a false)) s

/-- `CCF` (R703). -/
def execCcf (s : State) : Result :=
  straight .u1 (fun s => s.setFlags (ccf s.flags s.cpu.a)) s

/-- `SCF` (R704). -/
def execScf (s : State) : Result :=
  straight .u1 (fun s => s.setFlags (scf s.flags s.cpu.a)) s

/-- `NOP` (R705). -/
def execNop (s : State) : Result :=
  straight .u1 (fun s => s) s

/-- `HALT` (R706): a fault while `IFF1 = 0`, whatever the NMI line holds (D12); otherwise the HALT latch is set and `PC` passes the HALT (D13). -/
def execHalt (s : State) : Result :=
  if s.cpu.iff1 then straight .u1 (fun s => s.setHalt true) s
  else raise (.haltWithInterruptsDisabled s.cpu.pc s.pcBytes) s

/-- `DI` (R707). -/
def execDi (s : State) : Result :=
  straight .u1 (fun s => s.setIff false false) s

/-- `EI` (R708). -/
def execEi (s : State) : Result :=
  straight .u1 (fun s => (s.setIff true true).setEiDelay true) s

/-- `IM 0` (R709). -/
def execIm0 (s : State) : Result :=
  straight .ed2 (fun s => s.setIm .im0) s

/-- `IM 1` (R710). -/
def execIm1 (s : State) : Result :=
  straight .ed2 (fun s => s.setIm .im1) s

/-- `IM 2` (R711). -/
def execIm2 (s : State) : Result :=
  straight .ed2 (fun s => s.setIm .im2) s

end Sys2Proof.Machine
end

