-- ==== Sys2Proof/Machine/Exchange.lean ====
section
/-! DEFINITION. The exchanges (R500 to R504), block transfer and block search (R505 to R523) of 41_exchange_block.md. -/

namespace Sys2Proof.Machine

/-- `A,F` exchanged with `A',F'` (R501). -/
def swapAf (c : Cpu) : Cpu :=
  { c with a := c.alt.a, f := c.alt.f, alt := { c.alt with a := c.a, f := c.f } }

/-- `BC, DE, HL` exchanged with `BC', DE', HL'` (R502). -/
def swapMain (c : Cpu) : Cpu :=
  { c with b := c.alt.b, c := c.alt.c, d := c.alt.d, e := c.alt.e, h := c.alt.h, l := c.alt.l,
           alt := { c.alt with b := c.b, c := c.c, d := c.d, e := c.e, h := c.h, l := c.l } }

/-- The step of an incrementing block instruction. -/
def up : Word := 1#16

/-- The step of a decrementing block instruction. -/
def down : Word := 0xFFFF#16

/-- One block transfer (R505, R507): the byte at `HL` to `DE`, both moved by `delta`, `BC` decremented, the flags of R521. -/
def transferByte (delta : Word) (s : State) : State :=
  let v := s.atHl
  let s := s.poke s.de v
  let s := ((s.setHl (s.hl + delta)).setDe (s.de + delta)).setBc (s.bc - 1)
  s.setFlags (transferFlags s.flags s.cpu.a v s.bc)

/-- One block search (R509, R511): `A` compared with the byte at `HL`, `HL` moved by `delta`, `BC` decremented, the flags of
R522. -/
def compareByte (delta : Word) (s : State) : State :=
  let v := s.atHl
  let s := (s.setHl (s.hl + delta)).setBc (s.bc - 1)
  s.setFlags (compareFlags s.flags s.cpu.a v s.bc)

/-- `EX DE,HL` (R500). -/
def execExDeHl (s : State) : Result :=
  straight .u1 (fun s => (s.setDe s.hl).setHl s.de) s

/-- `EX AF,AF'` (R501). -/
def execExAfAf (s : State) : Result :=
  straight .u1 (fun s => s.withCpu swapAf) s

/-- `EXX` (R502). -/
def execExx (s : State) : Result :=
  straight .u1 (fun s => s.withCpu swapMain) s

/-- `EX (SP),HL` (R503): `SP` unchanged; both bytes are read before either is written. -/
def execExSpHl (s : State) : Result :=
  straight .u1 (fun s => (s.poke16 s.cpu.sp s.hl).setHl (s.peek16 s.cpu.sp)) s

/-- `EX (SP),IX` (R504). -/
def execExSpIx (s : State) : Result :=
  straight .xy2 (fun s => (s.poke16 s.cpu.sp (s.xy .ix)).setXy .ix (s.peek16 s.cpu.sp)) s

/-- `EX (SP),IY` (R504). -/
def execExSpIy (s : State) : Result :=
  straight .xy2 (fun s => (s.poke16 s.cpu.sp (s.xy .iy)).setXy .iy (s.peek16 s.cpu.sp)) s

/-- `LDI` (R505). -/
def execLdi (s : State) : Result :=
  straight .ed2 (fun s => transferByte up s) s

/-- `LDIR` (R506). -/
def execLdir (s : State) : Result :=
  iteration drawnXY (transferByte up) (fun t => t.bc != 0) s

/-- `LDD` (R507). -/
def execLdd (s : State) : Result :=
  straight .ed2 (fun s => transferByte down s) s

/-- `LDDR` (R508). -/
def execLddr (s : State) : Result :=
  iteration drawnXY (transferByte down) (fun t => t.bc != 0) s

/-- `CPI` (R509). -/
def execCpi (s : State) : Result :=
  straight .ed2 (fun s => compareByte up s) s

/-- `CPIR` (R510). -/
def execCpir (s : State) : Result :=
  iteration drawnXY (compareByte up) (fun t => t.bc != 0 && t.cpu.a != s.atHl) s

/-- `CPD` (R511). -/
def execCpd (s : State) : Result :=
  straight .ed2 (fun s => compareByte down s) s

/-- `CPDR` (R512). -/
def execCpdr (s : State) : Result :=
  iteration drawnXY (compareByte down) (fun t => t.bc != 0 && t.cpu.a != s.atHl) s

end Sys2Proof.Machine
end

