-- ==== Sys2Proof/Machine/Io.lean ====
section
/-! DEFINITION. The input and output instructions of 48_io.md (R1200 to R1213). A port has no meaning in the core: every access goes
to the host (R1200). -/

namespace Sys2Proof.Machine

/-- `IoRead(port)`: the byte the host answers (R1200). -/
def State.portByte (s : State) (port : Word) : Byte := (s.host.portRead port).1

/-- The host after `IoRead(port)` (R1200). -/
def State.afterPortRead (port : Word) (s : State) : State := s.withHost fun h => (h.portRead port).2

/-- One block input (R1203, R1205): the port `BC` before `B` is decremented; the flags of R1213 with
`k = v + ((C + 1) mod 256)` or `v + ((C - 1) mod 256)`. -/
def inByte (delta : Word) (s : State) : State :=
  let v := s.portByte s.bc
  let s := s.afterPortRead s.bc
  let s := s.poke s.hl v
  let s := (s.setHl (s.hl + delta)).setB (s.cpu.b - 1)
  s.setFlags (blockIoFlags s.cpu.b v (v.toNat + (s.cpu.c + lo8 delta).toNat))

/-- One block output (R1209, R1211): the port `BC` after `B` is decremented; the flags of R1213 with `k = v + L`, `L` after
`HL` has moved. -/
def outByte (delta : Word) (s : State) : State :=
  let s := s.setB (s.cpu.b - 1)
  let v := s.atHl
  let s := s.withHost (HostEnv.portWrite s.bc v)
  let s := s.setHl (s.hl + delta)
  s.setFlags (blockIoFlags s.cpu.b v (v.toNat + s.cpu.l.toNat))

/-- `IN A,(n)` (R1201): the old `A` is the high byte of the port address. -/
def execInAN (n : Byte) (s : State) : Result :=
  straight .u2n (fun s => (s.setA (s.portByte (cat s.cpu.a n))).afterPortRead (cat s.cpu.a n)) s

/-- `IN r,(C)` (R1202). -/
def execInRC (r : Reg8) (s : State) : Result :=
  straight .ed2 (fun s => ((s.setReg r (s.portByte s.bc)).setFlags (signZeroParity s.flags (s.portByte s.bc))).afterPortRead s.bc) s

/-- `INI` (R1203). -/
def execIni (s : State) : Result :=
  straight .ed2 (fun s => inByte up s) s

/-- `INIR` (R1204). -/
def execInir (s : State) : Result :=
  iteration drawnXYHP (inByte up) (fun t => t.cpu.b != 0) s

/-- `IND` (R1205). -/
def execInd (s : State) : Result :=
  straight .ed2 (fun s => inByte down s) s

/-- `INDR` (R1206). -/
def execIndr (s : State) : Result :=
  iteration drawnXYHP (inByte down) (fun t => t.cpu.b != 0) s

/-- `OUT (n),A` (R1207). -/
def execOutNA (n : Byte) (s : State) : Result :=
  straight .u2n (fun s => s.withHost (HostEnv.portWrite (cat s.cpu.a n) s.cpu.a)) s

/-- `OUT (C),r` (R1208). -/
def execOutCR (r : Reg8) (s : State) : Result :=
  straight .ed2 (fun s => s.withHost (HostEnv.portWrite s.bc (s.reg r))) s

/-- `OUTI` (R1209). -/
def execOuti (s : State) : Result :=
  straight .ed2 (fun s => outByte up s) s

/-- `OTIR` (R1210). -/
def execOtir (s : State) : Result :=
  iteration drawnXYHP (outByte up) (fun t => t.cpu.b != 0) s

/-- `OUTD` (R1211). -/
def execOutd (s : State) : Result :=
  straight .ed2 (fun s => outByte down s) s

/-- `OTDR` (R1212). -/
def execOtdr (s : State) : Result :=
  iteration drawnXYHP (outByte down) (fun t => t.cpu.b != 0) s

end Sys2Proof.Machine
end

