-- ==== Sys2Proof/Machine/Jump.lean ====
section
/-! DEFINITION. The jumps, calls and returns of 47_jump_call_return.md (R1100 to R1114). None changes a flag. A transfer to an
address the dispatch loop traps is an ordinary write of `PC` (R1100). -/

namespace Sys2Proof.Machine

/-- `pc <- target` where `taken` holds, else `pc <- PCn`. -/
def jumpIf (fm : Format) (taken : Bool) (target : Word) (s : State) : State :=
  if taken then s.setPc target else s.closing fm

/-- `Push16(PCn); pc <- target` (R1108, R1114). -/
def callTo (fm : Format) (target : Word) (s : State) : State := (s.push16 (s.nextPc fm)).setPc target

/-- `JP nn` (R1101). -/
def execJpNn (nn : Word) (s : State) : Result :=
  transfer .u3nn (fun s => s.setPc nn) s

/-- `JP cc,nn` (R1102). -/
def execJpCcNn (cc : Cond) (nn : Word) (s : State) : Result :=
  transfer .u3nn (fun s => jumpIf .u3nn (condHolds s.flags cc) nn s) s

/-- `JR e` (R1103). -/
def execJrE (e : Byte) (s : State) : Result :=
  transfer .u2e (fun s => s.setPc (s.relTarget e)) s

/-- `JR cc,e` (R1104). -/
def execJrCcE (cc : JrCond) (e : Byte) (s : State) : Result :=
  transfer .u2e (fun s => jumpIf .u2e (jrCondHolds s.flags cc) (s.relTarget e) s) s

/-- `JP (HL)` (R1105). -/
def execJpHl (s : State) : Result :=
  transfer .u1 (fun s => s.setPc s.hl) s

/-- `JP (IX)` (R1106). -/
def execJpIx (s : State) : Result :=
  transfer .xy2 (fun s => s.setPc (s.xy .ix)) s

/-- `JP (IY)` (R1106). -/
def execJpIy (s : State) : Result :=
  transfer .xy2 (fun s => s.setPc (s.xy .iy)) s

/-- `DJNZ e` (R1107). -/
def execDjnzE (e : Byte) (s : State) : Result :=
  transfer .u2e (fun s => jumpIf .u2e (s.cpu.b - 1 != 0) (s.relTarget e) (s.setB (s.cpu.b - 1))) s

/-- `CALL nn` (R1108). -/
def execCallNn (nn : Word) (s : State) : Result :=
  transfer .u3nn (fun s => callTo .u3nn nn s) s

/-- `CALL cc,nn` (R1109). -/
def execCallCcNn (cc : Cond) (nn : Word) (s : State) : Result :=
  transfer .u3nn (fun s => if condHolds s.flags cc then callTo .u3nn nn s else s.closing .u3nn) s

/-- `RST p` (R1114). -/
def execRstP (t : Fin 8) (s : State) : Result :=
  transfer .u1 (fun s => callTo .u1 (BitVec.ofNat 16 (8 * t.val)) s) s

/-- `RET` (R1110). -/
def execRet (s : State) : Result :=
  transfer .u1 (fun s => s.popPc) s

/-- `RET cc` (R1111). -/
def execRetCc (cc : Cond) (s : State) : Result :=
  transfer .u1 (fun s => if condHolds s.flags cc then s.popPc else s.closing .u1) s

/-- `RETI` (R1112). -/
def execReti (s : State) : Result :=
  transfer .ed2 (fun s => returnFromHandler s) s

/-- `RETN` (R1113). -/
def execRetn (s : State) : Result :=
  transfer .ed2 (fun s => returnFromHandler s) s

end Sys2Proof.Machine
end

