-- ==== Sys2Proof/Machine/Load.lean ====
section
/-! DEFINITION. The loads of 40_load.md: 8-bit (R401 to R420), 16-bit (R430 to R439), PUSH and POP (R440 to R443). No load but `LD A,I`
and `LD A,R` writes a flag; none raises a fault (R400). -/

namespace Sys2Proof.Machine

/-- `LD A,I` and `LD A,R`: `A` and the flags from `v`, P/V from `IFF2` (R415, R416, D52). -/
def loadInterruptReg (v : Byte) (s : State) : State :=
  (s.setA v).setFlags (interruptRegFlags s.flags v s.cpu.iff2)

/-- `LD r,r'` (R401). -/
def execLdRR (r : Reg8) (r' : Reg8) (s : State) : Result :=
  straight .u1 (fun s => s.setReg r (s.reg r')) s

/-- `LD r,n` (R402). -/
def execLdRN (r : Reg8) (n : Byte) (s : State) : Result :=
  straight .u2n (fun s => s.setReg r n) s

/-- `LD r,(HL)` (R403). -/
def execLdRHl (r : Reg8) (s : State) : Result :=
  straight .u1 (fun s => s.setReg r s.atHl) s

/-- `LD r,(IX+d)` (R404). -/
def execLdRIxd (r : Reg8) (d : Byte) (s : State) : Result :=
  straight .xy3d (fun s => s.setReg r (s.atXy .ix d)) s

/-- `LD r,(IY+d)` (R404). -/
def execLdRIyd (r : Reg8) (d : Byte) (s : State) : Result :=
  straight .xy3d (fun s => s.setReg r (s.atXy .iy d)) s

/-- `LD (HL),r` (R405). -/
def execLdHlR (r : Reg8) (s : State) : Result :=
  straight .u1 (fun s => s.poke s.hl (s.reg r)) s

/-- `LD (IX+d),r` (R406). -/
def execLdIxdR (d : Byte) (r : Reg8) (s : State) : Result :=
  straight .xy3d (fun s => s.poke (s.ea .ix d) (s.reg r)) s

/-- `LD (IY+d),r` (R406). -/
def execLdIydR (d : Byte) (r : Reg8) (s : State) : Result :=
  straight .xy3d (fun s => s.poke (s.ea .iy d) (s.reg r)) s

/-- `LD (HL),n` (R407). -/
def execLdHlN (n : Byte) (s : State) : Result :=
  straight .u2n (fun s => s.poke s.hl n) s

/-- `LD (IX+d),n` (R408). -/
def execLdIxdN (d : Byte) (n : Byte) (s : State) : Result :=
  straight .xy4dn (fun s => s.poke (s.ea .ix d) n) s

/-- `LD (IY+d),n` (R408). -/
def execLdIydN (d : Byte) (n : Byte) (s : State) : Result :=
  straight .xy4dn (fun s => s.poke (s.ea .iy d) n) s

/-- `LD A,(BC)` (R409). -/
def execLdABc (s : State) : Result :=
  straight .u1 (fun s => s.setA (s.peek s.bc)) s

/-- `LD A,(DE)` (R410). -/
def execLdADe (s : State) : Result :=
  straight .u1 (fun s => s.setA (s.peek s.de)) s

/-- `LD A,(nn)` (R411). -/
def execLdANn (nn : Word) (s : State) : Result :=
  straight .u3nn (fun s => s.setA (s.peek nn)) s

/-- `LD (BC),A` (R412). -/
def execLdBcA (s : State) : Result :=
  straight .u1 (fun s => s.poke s.bc s.cpu.a) s

/-- `LD (DE),A` (R413). -/
def execLdDeA (s : State) : Result :=
  straight .u1 (fun s => s.poke s.de s.cpu.a) s

/-- `LD (nn),A` (R414). -/
def execLdNnA (nn : Word) (s : State) : Result :=
  straight .u3nn (fun s => s.poke nn s.cpu.a) s

/-- `LD A,I` (R415). -/
def execLdAI (s : State) : Result :=
  straight .ed2 (fun s => loadInterruptReg s.cpu.i s) s

/-- `LD A,R` (R416): `R` is read after its advance by this instruction. -/
def execLdARefresh (s : State) : Result :=
  straight .ed2 (fun s => loadInterruptReg s.cpu.r s) s

/-- `LD I,A` (R417). -/
def execLdIA (s : State) : Result :=
  straight .ed2 (fun s => s.withCpu fun c => { c with i := c.a }) s

/-- `LD R,A` (R418): all eight bits; the advance of `R` is overwritten. -/
def execLdRefreshA (s : State) : Result :=
  straight .ed2 (fun s => s.withCpu fun c => { c with r := c.a }) s

/-- `LD between registers and the halves of IX` (R419). -/
def execLdIxHalves (r : RegX) (r' : RegX) (s : State) : Result :=
  straight .xy2 (fun s => s.setRegX .ix r (s.regX .ix r')) s

/-- `LD between registers and the halves of IY` (R419). -/
def execLdIyHalves (r : RegX) (r' : RegX) (s : State) : Result :=
  straight .xy2 (fun s => s.setRegX .iy r (s.regX .iy r')) s

/-- `LD IXH,n / LD IXL,n` (R420). -/
def execLdIxhN (h : Half) (n : Byte) (s : State) : Result :=
  straight .xy3n (fun s => s.setHalf .ix h n) s

/-- `LD IYH,n / LD IYL,n` (R420). -/
def execLdIyhN (h : Half) (n : Byte) (s : State) : Result :=
  straight .xy3n (fun s => s.setHalf .iy h n) s

/-- `LD dd,nn` (R430). -/
def execLdDdNn (p : Pair) (nn : Word) (s : State) : Result :=
  straight .u3nn (fun s => s.setPair p nn) s

/-- `LD IX,nn` (R431). -/
def execLdIxNn (nn : Word) (s : State) : Result :=
  straight .xy4nn (fun s => s.setXy .ix nn) s

/-- `LD IY,nn` (R431). -/
def execLdIyNn (nn : Word) (s : State) : Result :=
  straight .xy4nn (fun s => s.setXy .iy nn) s

/-- `LD HL,(nn)` (R432). -/
def execLdHlMem (nn : Word) (s : State) : Result :=
  straight .u3nn (fun s => s.setHl (s.peek16 nn)) s

/-- `LD dd,(nn)` (R433). -/
def execLdDdMem (p : Pair) (nn : Word) (s : State) : Result :=
  straight .ed4nn (fun s => s.setPair p (s.peek16 nn)) s

/-- `LD IX,(nn)` (R434). -/
def execLdIxMem (nn : Word) (s : State) : Result :=
  straight .xy4nn (fun s => s.setXy .ix (s.peek16 nn)) s

/-- `LD IY,(nn)` (R434). -/
def execLdIyMem (nn : Word) (s : State) : Result :=
  straight .xy4nn (fun s => s.setXy .iy (s.peek16 nn)) s

/-- `LD (nn),HL` (R435). -/
def execLdMemHl (nn : Word) (s : State) : Result :=
  straight .u3nn (fun s => s.poke16 nn s.hl) s

/-- `LD (nn),dd` (R436). -/
def execLdMemDd (nn : Word) (p : Pair) (s : State) : Result :=
  straight .ed4nn (fun s => s.poke16 nn (s.pair p)) s

/-- `LD (nn),IX` (R437). -/
def execLdMemIx (nn : Word) (s : State) : Result :=
  straight .xy4nn (fun s => s.poke16 nn (s.xy .ix)) s

/-- `LD (nn),IY` (R437). -/
def execLdMemIy (nn : Word) (s : State) : Result :=
  straight .xy4nn (fun s => s.poke16 nn (s.xy .iy)) s

/-- `LD SP,HL` (R438). -/
def execLdSpHl (s : State) : Result :=
  straight .u1 (fun s => s.setSp s.hl) s

/-- `LD SP,IX` (R439). -/
def execLdSpIx (s : State) : Result :=
  straight .xy2 (fun s => s.setSp (s.xy .ix)) s

/-- `LD SP,IY` (R439). -/
def execLdSpIy (s : State) : Result :=
  straight .xy2 (fun s => s.setSp (s.xy .iy)) s

/-- `PUSH qq` (R440). -/
def execPushQq (p : PairAf) (s : State) : Result :=
  straight .u1 (fun s => s.push16 (s.pairAf p)) s

/-- `PUSH IX` (R441). -/
def execPushIx (s : State) : Result :=
  straight .xy2 (fun s => s.push16 (s.xy .ix)) s

/-- `PUSH IY` (R441). -/
def execPushIy (s : State) : Result :=
  straight .xy2 (fun s => s.push16 (s.xy .iy)) s

/-- `POP qq` (R442). -/
def execPopQq (p : PairAf) (s : State) : Result :=
  straight .u1 (fun s => s.dropWord.setPairAf p s.top16) s

/-- `POP IX` (R443). -/
def execPopIx (s : State) : Result :=
  straight .xy2 (fun s => s.dropWord.setXy .ix s.top16) s

/-- `POP IY` (R443). -/
def execPopIy (s : State) : Result :=
  straight .xy2 (fun s => s.dropWord.setXy .iy s.top16) s

end Sys2Proof.Machine
end

