-- ==== Sys2Proof/Machine/Rotate.lean ====
section
/-! DEFINITION. The rotates and shifts of 45_rotate_shift.md: of `A` (R900 to R903), the CB group in three operand forms (R905 to
R933), and the digit rotates (R940, R941). -/

namespace Sys2Proof.Machine

/-- `RLD`: the new `A` and the new byte at `HL` from the old ones (R940). -/
def rldDigits (a m : Byte) : Byte × Byte := ((a &&& 0xF0#8) ||| (m >>> 4), (m <<< 4) ||| (a &&& 0x0F#8))

/-- `RRD`: the new `A` and the new byte at `HL` from the old ones (R941). -/
def rrdDigits (a m : Byte) : Byte × Byte := ((a &&& 0xF0#8) ||| (m &&& 0x0F#8), (a <<< 4) ||| (m >>> 4))

/-- `A` and the byte at `HL` written, the flags from the new `A` (R940, R941). -/
def rotateDigits (r : Byte × Byte) (s : State) : State :=
  ((s.poke s.hl r.2).setA r.1).setFlags (signZeroParity s.flags r.1)

/-- `RLCA` (R900). -/
def execRlca (s : State) : Result :=
  straight .u1 (fun s => s.onA (rotAcc .rlc s.flags)) s

/-- `RLA` (R901). -/
def execRla (s : State) : Result :=
  straight .u1 (fun s => s.onA (rotAcc .rl s.flags)) s

/-- `RRCA` (R902). -/
def execRrca (s : State) : Result :=
  straight .u1 (fun s => s.onA (rotAcc .rrc s.flags)) s

/-- `RRA` (R903). -/
def execRra (s : State) : Result :=
  straight .u1 (fun s => s.onA (rotAcc .rr s.flags)) s

/-- `RLC r` (R910). -/
def execRlcR (r : Reg8) (s : State) : Result :=
  straight .cb2 (fun s => s.onReg r (rot .rlc s.carry)) s

/-- `RLC (HL)` (R911). -/
def execRlcHl (s : State) : Result :=
  straight .cb2 (fun s => s.onMem s.hl (rot .rlc s.carry)) s

/-- `RLC (IX+d)` (R912). -/
def execRlcIxd (d : Byte) (s : State) : Result :=
  straight .xycb4 (fun s => s.onMem (s.ea .ix d) (rot .rlc s.carry)) s

/-- `RLC (IY+d)` (R912). -/
def execRlcIyd (d : Byte) (s : State) : Result :=
  straight .xycb4 (fun s => s.onMem (s.ea .iy d) (rot .rlc s.carry)) s

/-- `RRC r` (R913). -/
def execRrcR (r : Reg8) (s : State) : Result :=
  straight .cb2 (fun s => s.onReg r (rot .rrc s.carry)) s

/-- `RRC (HL)` (R914). -/
def execRrcHl (s : State) : Result :=
  straight .cb2 (fun s => s.onMem s.hl (rot .rrc s.carry)) s

/-- `RRC (IX+d)` (R915). -/
def execRrcIxd (d : Byte) (s : State) : Result :=
  straight .xycb4 (fun s => s.onMem (s.ea .ix d) (rot .rrc s.carry)) s

/-- `RRC (IY+d)` (R915). -/
def execRrcIyd (d : Byte) (s : State) : Result :=
  straight .xycb4 (fun s => s.onMem (s.ea .iy d) (rot .rrc s.carry)) s

/-- `RL r` (R916). -/
def execRlR (r : Reg8) (s : State) : Result :=
  straight .cb2 (fun s => s.onReg r (rot .rl s.carry)) s

/-- `RL (HL)` (R917). -/
def execRlHl (s : State) : Result :=
  straight .cb2 (fun s => s.onMem s.hl (rot .rl s.carry)) s

/-- `RL (IX+d)` (R918). -/
def execRlIxd (d : Byte) (s : State) : Result :=
  straight .xycb4 (fun s => s.onMem (s.ea .ix d) (rot .rl s.carry)) s

/-- `RL (IY+d)` (R918). -/
def execRlIyd (d : Byte) (s : State) : Result :=
  straight .xycb4 (fun s => s.onMem (s.ea .iy d) (rot .rl s.carry)) s

/-- `RR r` (R919). -/
def execRrR (r : Reg8) (s : State) : Result :=
  straight .cb2 (fun s => s.onReg r (rot .rr s.carry)) s

/-- `RR (HL)` (R920). -/
def execRrHl (s : State) : Result :=
  straight .cb2 (fun s => s.onMem s.hl (rot .rr s.carry)) s

/-- `RR (IX+d)` (R921). -/
def execRrIxd (d : Byte) (s : State) : Result :=
  straight .xycb4 (fun s => s.onMem (s.ea .ix d) (rot .rr s.carry)) s

/-- `RR (IY+d)` (R921). -/
def execRrIyd (d : Byte) (s : State) : Result :=
  straight .xycb4 (fun s => s.onMem (s.ea .iy d) (rot .rr s.carry)) s

/-- `SLA r` (R922). -/
def execSlaR (r : Reg8) (s : State) : Result :=
  straight .cb2 (fun s => s.onReg r (rot .sla s.carry)) s

/-- `SLA (HL)` (R923). -/
def execSlaHl (s : State) : Result :=
  straight .cb2 (fun s => s.onMem s.hl (rot .sla s.carry)) s

/-- `SLA (IX+d)` (R924). -/
def execSlaIxd (d : Byte) (s : State) : Result :=
  straight .xycb4 (fun s => s.onMem (s.ea .ix d) (rot .sla s.carry)) s

/-- `SLA (IY+d)` (R924). -/
def execSlaIyd (d : Byte) (s : State) : Result :=
  straight .xycb4 (fun s => s.onMem (s.ea .iy d) (rot .sla s.carry)) s

/-- `SRA r` (R925). -/
def execSraR (r : Reg8) (s : State) : Result :=
  straight .cb2 (fun s => s.onReg r (rot .sra s.carry)) s

/-- `SRA (HL)` (R926). -/
def execSraHl (s : State) : Result :=
  straight .cb2 (fun s => s.onMem s.hl (rot .sra s.carry)) s

/-- `SRA (IX+d)` (R927). -/
def execSraIxd (d : Byte) (s : State) : Result :=
  straight .xycb4 (fun s => s.onMem (s.ea .ix d) (rot .sra s.carry)) s

/-- `SRA (IY+d)` (R927). -/
def execSraIyd (d : Byte) (s : State) : Result :=
  straight .xycb4 (fun s => s.onMem (s.ea .iy d) (rot .sra s.carry)) s

/-- `SLL r` (R928). -/
def execSllR (r : Reg8) (s : State) : Result :=
  straight .cb2 (fun s => s.onReg r (rot .sll s.carry)) s

/-- `SLL (HL)` (R929). -/
def execSllHl (s : State) : Result :=
  straight .cb2 (fun s => s.onMem s.hl (rot .sll s.carry)) s

/-- `SLL (IX+d)` (R930). -/
def execSllIxd (d : Byte) (s : State) : Result :=
  straight .xycb4 (fun s => s.onMem (s.ea .ix d) (rot .sll s.carry)) s

/-- `SLL (IY+d)` (R930). -/
def execSllIyd (d : Byte) (s : State) : Result :=
  straight .xycb4 (fun s => s.onMem (s.ea .iy d) (rot .sll s.carry)) s

/-- `SRL r` (R931). -/
def execSrlR (r : Reg8) (s : State) : Result :=
  straight .cb2 (fun s => s.onReg r (rot .srl s.carry)) s

/-- `SRL (HL)` (R932). -/
def execSrlHl (s : State) : Result :=
  straight .cb2 (fun s => s.onMem s.hl (rot .srl s.carry)) s

/-- `SRL (IX+d)` (R933). -/
def execSrlIxd (d : Byte) (s : State) : Result :=
  straight .xycb4 (fun s => s.onMem (s.ea .ix d) (rot .srl s.carry)) s

/-- `SRL (IY+d)` (R933). -/
def execSrlIyd (d : Byte) (s : State) : Result :=
  straight .xycb4 (fun s => s.onMem (s.ea .iy d) (rot .srl s.carry)) s

/-- `RLD` (R940). -/
def execRld (s : State) : Result :=
  straight .ed2 (fun s => rotateDigits (rldDigits s.cpu.a s.atHl) s) s

/-- `RRD` (R941). -/
def execRrd (s : State) : Result :=
  straight .ed2 (fun s => rotateDigits (rrdDigits s.cpu.a s.atHl) s) s

end Sys2Proof.Machine
end

