-- ==== Sys2Proof/Machine/Dispatch.lean ====
section
/-! DEFINITION. The dispatch of an instruction to its meaning: one arm per row of spec/opcode_table.json. -/

namespace Sys2Proof.Machine

def exec (i : Instr) (s : State) : Host.Outcome State Fault Refusal :=
  match i with
  | .ldRR r r' => Sys2Proof.Machine.execLdRR r r' s
  | .ldRN r n => Sys2Proof.Machine.execLdRN r n s
  | .ldRHl r => Sys2Proof.Machine.execLdRHl r s
  | .ldRIxd r d => Sys2Proof.Machine.execLdRIxd r d s
  | .ldRIyd r d => Sys2Proof.Machine.execLdRIyd r d s
  | .ldHlR r => Sys2Proof.Machine.execLdHlR r s
  | .ldIxdR d r => Sys2Proof.Machine.execLdIxdR d r s
  | .ldIydR d r => Sys2Proof.Machine.execLdIydR d r s
  | .ldHlN n => Sys2Proof.Machine.execLdHlN n s
  | .ldIxdN d n => Sys2Proof.Machine.execLdIxdN d n s
  | .ldIydN d n => Sys2Proof.Machine.execLdIydN d n s
  | .ldABc => Sys2Proof.Machine.execLdABc s
  | .ldADe => Sys2Proof.Machine.execLdADe s
  | .ldANn nn => Sys2Proof.Machine.execLdANn nn s
  | .ldBcA => Sys2Proof.Machine.execLdBcA s
  | .ldDeA => Sys2Proof.Machine.execLdDeA s
  | .ldNnA nn => Sys2Proof.Machine.execLdNnA nn s
  | .ldAI => Sys2Proof.Machine.execLdAI s
  | .ldARefresh => Sys2Proof.Machine.execLdARefresh s
  | .ldIA => Sys2Proof.Machine.execLdIA s
  | .ldRefreshA => Sys2Proof.Machine.execLdRefreshA s
  | .ldIxHalves r r' => Sys2Proof.Machine.execLdIxHalves r r' s
  | .ldIyHalves r r' => Sys2Proof.Machine.execLdIyHalves r r' s
  | .ldIxhN h n => Sys2Proof.Machine.execLdIxhN h n s
  | .ldIyhN h n => Sys2Proof.Machine.execLdIyhN h n s
  | .ldDdNn p nn => Sys2Proof.Machine.execLdDdNn p nn s
  | .ldIxNn nn => Sys2Proof.Machine.execLdIxNn nn s
  | .ldIyNn nn => Sys2Proof.Machine.execLdIyNn nn s
  | .ldHlMem nn => Sys2Proof.Machine.execLdHlMem nn s
  | .ldDdMem p nn => Sys2Proof.Machine.execLdDdMem p nn s
  | .ldIxMem nn => Sys2Proof.Machine.execLdIxMem nn s
  | .ldIyMem nn => Sys2Proof.Machine.execLdIyMem nn s
  | .ldMemHl nn => Sys2Proof.Machine.execLdMemHl nn s
  | .ldMemDd nn p => Sys2Proof.Machine.execLdMemDd nn p s
  | .ldMemIx nn => Sys2Proof.Machine.execLdMemIx nn s
  | .ldMemIy nn => Sys2Proof.Machine.execLdMemIy nn s
  | .ldSpHl => Sys2Proof.Machine.execLdSpHl s
  | .ldSpIx => Sys2Proof.Machine.execLdSpIx s
  | .ldSpIy => Sys2Proof.Machine.execLdSpIy s
  | .pushQq p => Sys2Proof.Machine.execPushQq p s
  | .pushIx => Sys2Proof.Machine.execPushIx s
  | .pushIy => Sys2Proof.Machine.execPushIy s
  | .popQq p => Sys2Proof.Machine.execPopQq p s
  | .popIx => Sys2Proof.Machine.execPopIx s
  | .popIy => Sys2Proof.Machine.execPopIy s
  | .exDeHl => Sys2Proof.Machine.execExDeHl s
  | .exAfAf => Sys2Proof.Machine.execExAfAf s
  | .exx => Sys2Proof.Machine.execExx s
  | .exSpHl => Sys2Proof.Machine.execExSpHl s
  | .exSpIx => Sys2Proof.Machine.execExSpIx s
  | .exSpIy => Sys2Proof.Machine.execExSpIy s
  | .ldi => Sys2Proof.Machine.execLdi s
  | .ldir => Sys2Proof.Machine.execLdir s
  | .ldd => Sys2Proof.Machine.execLdd s
  | .lddr => Sys2Proof.Machine.execLddr s
  | .cpi => Sys2Proof.Machine.execCpi s
  | .cpir => Sys2Proof.Machine.execCpir s
  | .cpd => Sys2Proof.Machine.execCpd s
  | .cpdr => Sys2Proof.Machine.execCpdr s
  | .addR r => Sys2Proof.Machine.execAddR r s
  | .addN n => Sys2Proof.Machine.execAddN n s
  | .addHl => Sys2Proof.Machine.execAddHl s
  | .addIxd d => Sys2Proof.Machine.execAddIxd d s
  | .addIyd d => Sys2Proof.Machine.execAddIyd d s
  | .addIxh h => Sys2Proof.Machine.execAddIxh h s
  | .addIyh h => Sys2Proof.Machine.execAddIyh h s
  | .adcR r => Sys2Proof.Machine.execAdcR r s
  | .adcN n => Sys2Proof.Machine.execAdcN n s
  | .adcHl => Sys2Proof.Machine.execAdcHl s
  | .adcIxd d => Sys2Proof.Machine.execAdcIxd d s
  | .adcIyd d => Sys2Proof.Machine.execAdcIyd d s
  | .adcIxh h => Sys2Proof.Machine.execAdcIxh h s
  | .adcIyh h => Sys2Proof.Machine.execAdcIyh h s
  | .subR r => Sys2Proof.Machine.execSubR r s
  | .subN n => Sys2Proof.Machine.execSubN n s
  | .subHl => Sys2Proof.Machine.execSubHl s
  | .subIxd d => Sys2Proof.Machine.execSubIxd d s
  | .subIyd d => Sys2Proof.Machine.execSubIyd d s
  | .subIxh h => Sys2Proof.Machine.execSubIxh h s
  | .subIyh h => Sys2Proof.Machine.execSubIyh h s
  | .sbcR r => Sys2Proof.Machine.execSbcR r s
  | .sbcN n => Sys2Proof.Machine.execSbcN n s
  | .sbcHl => Sys2Proof.Machine.execSbcHl s
  | .sbcIxd d => Sys2Proof.Machine.execSbcIxd d s
  | .sbcIyd d => Sys2Proof.Machine.execSbcIyd d s
  | .sbcIxh h => Sys2Proof.Machine.execSbcIxh h s
  | .sbcIyh h => Sys2Proof.Machine.execSbcIyh h s
  | .andR r => Sys2Proof.Machine.execAndR r s
  | .andN n => Sys2Proof.Machine.execAndN n s
  | .andHl => Sys2Proof.Machine.execAndHl s
  | .andIxd d => Sys2Proof.Machine.execAndIxd d s
  | .andIyd d => Sys2Proof.Machine.execAndIyd d s
  | .andIxh h => Sys2Proof.Machine.execAndIxh h s
  | .andIyh h => Sys2Proof.Machine.execAndIyh h s
  | .xorR r => Sys2Proof.Machine.execXorR r s
  | .xorN n => Sys2Proof.Machine.execXorN n s
  | .xorHl => Sys2Proof.Machine.execXorHl s
  | .xorIxd d => Sys2Proof.Machine.execXorIxd d s
  | .xorIyd d => Sys2Proof.Machine.execXorIyd d s
  | .xorIxh h => Sys2Proof.Machine.execXorIxh h s
  | .xorIyh h => Sys2Proof.Machine.execXorIyh h s
  | .orR r => Sys2Proof.Machine.execOrR r s
  | .orN n => Sys2Proof.Machine.execOrN n s
  | .orHl => Sys2Proof.Machine.execOrHl s
  | .orIxd d => Sys2Proof.Machine.execOrIxd d s
  | .orIyd d => Sys2Proof.Machine.execOrIyd d s
  | .orIxh h => Sys2Proof.Machine.execOrIxh h s
  | .orIyh h => Sys2Proof.Machine.execOrIyh h s
  | .cpR r => Sys2Proof.Machine.execCpR r s
  | .cpN n => Sys2Proof.Machine.execCpN n s
  | .cpHl => Sys2Proof.Machine.execCpHl s
  | .cpIxd d => Sys2Proof.Machine.execCpIxd d s
  | .cpIyd d => Sys2Proof.Machine.execCpIyd d s
  | .cpIxh h => Sys2Proof.Machine.execCpIxh h s
  | .cpIyh h => Sys2Proof.Machine.execCpIyh h s
  | .incR r => Sys2Proof.Machine.execIncR r s
  | .incHl => Sys2Proof.Machine.execIncHl s
  | .incIxd d => Sys2Proof.Machine.execIncIxd d s
  | .incIyd d => Sys2Proof.Machine.execIncIyd d s
  | .incIxh h => Sys2Proof.Machine.execIncIxh h s
  | .incIyh h => Sys2Proof.Machine.execIncIyh h s
  | .decR r => Sys2Proof.Machine.execDecR r s
  | .decHl => Sys2Proof.Machine.execDecHl s
  | .decIxd d => Sys2Proof.Machine.execDecIxd d s
  | .decIyd d => Sys2Proof.Machine.execDecIyd d s
  | .decIxh h => Sys2Proof.Machine.execDecIxh h s
  | .decIyh h => Sys2Proof.Machine.execDecIyh h s
  | .daa => Sys2Proof.Machine.execDaa s
  | .cpl => Sys2Proof.Machine.execCpl s
  | .neg => Sys2Proof.Machine.execNeg s
  | .ccf => Sys2Proof.Machine.execCcf s
  | .scf => Sys2Proof.Machine.execScf s
  | .nop => Sys2Proof.Machine.execNop s
  | .halt => Sys2Proof.Machine.execHalt s
  | .di => Sys2Proof.Machine.execDi s
  | .ei => Sys2Proof.Machine.execEi s
  | .im0 => Sys2Proof.Machine.execIm0 s
  | .im1 => Sys2Proof.Machine.execIm1 s
  | .im2 => Sys2Proof.Machine.execIm2 s
  | .addHlSs p => Sys2Proof.Machine.execAddHlSs p s
  | .adcHlSs p => Sys2Proof.Machine.execAdcHlSs p s
  | .sbcHlSs p => Sys2Proof.Machine.execSbcHlSs p s
  | .addIxPp p => Sys2Proof.Machine.execAddIxPp p s
  | .addIyPp p => Sys2Proof.Machine.execAddIyPp p s
  | .incSs p => Sys2Proof.Machine.execIncSs p s
  | .incIx => Sys2Proof.Machine.execIncIx s
  | .incIy => Sys2Proof.Machine.execIncIy s
  | .decSs p => Sys2Proof.Machine.execDecSs p s
  | .decIx => Sys2Proof.Machine.execDecIx s
  | .decIy => Sys2Proof.Machine.execDecIy s
  | .rlca => Sys2Proof.Machine.execRlca s
  | .rla => Sys2Proof.Machine.execRla s
  | .rrca => Sys2Proof.Machine.execRrca s
  | .rra => Sys2Proof.Machine.execRra s
  | .rlcR r => Sys2Proof.Machine.execRlcR r s
  | .rlcHl => Sys2Proof.Machine.execRlcHl s
  | .rlcIxd d => Sys2Proof.Machine.execRlcIxd d s
  | .rlcIyd d => Sys2Proof.Machine.execRlcIyd d s
  | .rrcR r => Sys2Proof.Machine.execRrcR r s
  | .rrcHl => Sys2Proof.Machine.execRrcHl s
  | .rrcIxd d => Sys2Proof.Machine.execRrcIxd d s
  | .rrcIyd d => Sys2Proof.Machine.execRrcIyd d s
  | .rlR r => Sys2Proof.Machine.execRlR r s
  | .rlHl => Sys2Proof.Machine.execRlHl s
  | .rlIxd d => Sys2Proof.Machine.execRlIxd d s
  | .rlIyd d => Sys2Proof.Machine.execRlIyd d s
  | .rrR r => Sys2Proof.Machine.execRrR r s
  | .rrHl => Sys2Proof.Machine.execRrHl s
  | .rrIxd d => Sys2Proof.Machine.execRrIxd d s
  | .rrIyd d => Sys2Proof.Machine.execRrIyd d s
  | .slaR r => Sys2Proof.Machine.execSlaR r s
  | .slaHl => Sys2Proof.Machine.execSlaHl s
  | .slaIxd d => Sys2Proof.Machine.execSlaIxd d s
  | .slaIyd d => Sys2Proof.Machine.execSlaIyd d s
  | .sraR r => Sys2Proof.Machine.execSraR r s
  | .sraHl => Sys2Proof.Machine.execSraHl s
  | .sraIxd d => Sys2Proof.Machine.execSraIxd d s
  | .sraIyd d => Sys2Proof.Machine.execSraIyd d s
  | .sllR r => Sys2Proof.Machine.execSllR r s
  | .sllHl => Sys2Proof.Machine.execSllHl s
  | .sllIxd d => Sys2Proof.Machine.execSllIxd d s
  | .sllIyd d => Sys2Proof.Machine.execSllIyd d s
  | .srlR r => Sys2Proof.Machine.execSrlR r s
  | .srlHl => Sys2Proof.Machine.execSrlHl s
  | .srlIxd d => Sys2Proof.Machine.execSrlIxd d s
  | .srlIyd d => Sys2Proof.Machine.execSrlIyd d s
  | .rld => Sys2Proof.Machine.execRld s
  | .rrd => Sys2Proof.Machine.execRrd s
  | .bitBR b r => Sys2Proof.Machine.execBitBR b r s
  | .bitBHl b => Sys2Proof.Machine.execBitBHl b s
  | .bitBIxd d b => Sys2Proof.Machine.execBitBIxd d b s
  | .bitBIyd d b => Sys2Proof.Machine.execBitBIyd d b s
  | .setBR b r => Sys2Proof.Machine.execSetBR b r s
  | .setBHl b => Sys2Proof.Machine.execSetBHl b s
  | .setBIxd d b => Sys2Proof.Machine.execSetBIxd d b s
  | .setBIyd d b => Sys2Proof.Machine.execSetBIyd d b s
  | .resBR b r => Sys2Proof.Machine.execResBR b r s
  | .resBHl b => Sys2Proof.Machine.execResBHl b s
  | .resBIxd d b => Sys2Proof.Machine.execResBIxd d b s
  | .resBIyd d b => Sys2Proof.Machine.execResBIyd d b s
  | .jpNn nn => Sys2Proof.Machine.execJpNn nn s
  | .jpCcNn cc nn => Sys2Proof.Machine.execJpCcNn cc nn s
  | .jrE e => Sys2Proof.Machine.execJrE e s
  | .jrCcE cc e => Sys2Proof.Machine.execJrCcE cc e s
  | .jpHl => Sys2Proof.Machine.execJpHl s
  | .jpIx => Sys2Proof.Machine.execJpIx s
  | .jpIy => Sys2Proof.Machine.execJpIy s
  | .djnzE e => Sys2Proof.Machine.execDjnzE e s
  | .callNn nn => Sys2Proof.Machine.execCallNn nn s
  | .callCcNn cc nn => Sys2Proof.Machine.execCallCcNn cc nn s
  | .rstP t => Sys2Proof.Machine.execRstP t s
  | .ret => Sys2Proof.Machine.execRet s
  | .retCc cc => Sys2Proof.Machine.execRetCc cc s
  | .reti => Sys2Proof.Machine.execReti s
  | .retn => Sys2Proof.Machine.execRetn s
  | .inAN n => Sys2Proof.Machine.execInAN n s
  | .inRC r => Sys2Proof.Machine.execInRC r s
  | .ini => Sys2Proof.Machine.execIni s
  | .inir => Sys2Proof.Machine.execInir s
  | .ind => Sys2Proof.Machine.execInd s
  | .indr => Sys2Proof.Machine.execIndr s
  | .outNA n => Sys2Proof.Machine.execOutNA n s
  | .outCR r => Sys2Proof.Machine.execOutCR r s
  | .outi => Sys2Proof.Machine.execOuti s
  | .otir => Sys2Proof.Machine.execOtir s
  | .outd => Sys2Proof.Machine.execOutd s
  | .otdr => Sys2Proof.Machine.execOtdr s

end Sys2Proof.Machine
end

