-- ==== Sys2Proof/WellFormed.lean ====
section
/-!
DEFINITION. Which terms of `Instr` are instructions. The operand types admit exactly the field values a row allows (R302),
so one check remains: the row "LD r',s' (index halves)" has the constraint that at least one of its two operands is an
index half (R419); `LD B,B` under DD or FD has no row.
-/

namespace Sys2Proof

/-- The operand names a half of the index register (codes 100 and 101, R419). -/
def RegX.isHalf : RegX → Bool
  | .hi => true
  | .lo => true
  | .b => false
  | .c => false
  | .d => false
  | .e => false
  | .a => false

/-- The term is an instruction: the constraint of R302 and R419. -/
def Instr.wf : Instr → Bool
  | .ldIxHalves r r' => r.isHalf || r'.isHalf
  | .ldIyHalves r r' => r.isHalf || r'.isHalf
  | _ => true

end Sys2Proof
end

