-- ==== Sys2Proof/Decode.lean ====
section
/-!
DEFINITION. The decoder of 30_encoding.md (R300 to R319), total on any bytes, and after it the encoder and the numbering of
spec/opcode_table.json. A byte sequence with no row is rejected by name (R311).
-/

namespace Sys2Proof

open Sys2Proof.Machine (cat hi8 lo8)

/-- Why bytes are no instruction (R311); the byte is the opcode byte with no row. `truncated` is raised by `decode` alone,
on a list that ends inside the instruction. -/
inductive DecodeError where
  | undefinedED (op : Byte)
  | undefinedXY (xy : XY) (op : Byte)
  | undefinedXYCB (xy : XY) (op : Byte)
  | truncated
deriving DecidableEq, Repr

/-! ## Fields of the opcode byte (R303) -/

/-- `x`, bits 7:6 of the opcode byte. -/
def opX (b : Byte) : Fin 4 := (b.extractLsb' 6 2).toFin

/-- `y`, bits 5:3 of the opcode byte. -/
def opY (b : Byte) : Fin 8 := (b.extractLsb' 3 3).toFin

/-- `z`, bits 2:0 of the opcode byte. -/
def opZ (b : Byte) : Fin 8 := (b.extractLsb' 0 3).toFin

/-- `p`, bits 5:4 of the opcode byte. -/
def opPair (b : Byte) : Fin 4 := (b.extractLsb' 4 2).toFin

/-- A register field: `k` of the register, or `m` for 110, the memory operand (R304). -/
def regOr {α : Type} (k : Reg8 → α) (m : α) : Fin 8 → α
  | 0 => k .b | 1 => k .c | 2 => k .d | 3 => k .e | 4 => k .h | 5 => k .l | 6 => m | 7 => k .a

/-- A register-pair field `rp` (R305). -/
def pairOf : Fin 4 → Pair
  | 0 => .bc | 1 => .de | 2 => .hl | 3 => .sp

/-- A register-pair field `rp2` (R305). -/
def pairAfOf : Fin 4 → PairAf
  | 0 => .bc | 1 => .de | 2 => .hl | 3 => .af

/-- The register-pair field of `ADD IX,pp` (R305, R803). -/
def pairXOf : Fin 4 → PairX
  | 0 => .bc | 1 => .de | 2 => .xy | 3 => .sp

/-- A condition field (R306). -/
def condOf : Fin 8 → Cond
  | 0 => .nz | 1 => .z | 2 => .nc | 3 => .c | 4 => .po | 5 => .pe | 6 => .p | 7 => .m

/-- The form of an instruction for IX or for IY (R313). -/
def pick : XY → Instr → Instr → Instr
  | .ix, i, _ => i
  | .iy, _, i => i

/-! ## The tables U, CB, ED, XYTAB and XYCB (R301, R314 to R318) -/

/-- The CB table (R315): every byte is defined. -/
def decodeCB (b1 : Byte) : Instr :=
  let b : Fin 8 := opY b1
  match opX b1 with
  | 0 =>
    match opY b1 with
    | 0 => regOr .rlcR .rlcHl (opZ b1)
    | 1 => regOr .rrcR .rrcHl (opZ b1)
    | 2 => regOr .rlR .rlHl (opZ b1)
    | 3 => regOr .rrR .rrHl (opZ b1)
    | 4 => regOr .slaR .slaHl (opZ b1)
    | 5 => regOr .sraR .sraHl (opZ b1)
    | 6 => regOr .sllR .sllHl (opZ b1)
    | 7 => regOr .srlR .srlHl (opZ b1)
  | 1 => regOr (.bitBR b) (.bitBHl b) (opZ b1)
  | 2 => regOr (.resBR b) (.resBHl b) (opZ b1)
  | 3 => regOr (.setBR b) (.setBHl b) (opZ b1)

/-- The DD CB and FD CB table (R318): `op` is the last byte, whose bits 2:0 must be 110. -/
def decodeXYCB (xy : XY) (d op : Byte) : Except DecodeError Instr :=
  let b : Fin 8 := opY op
  match opZ op with
  | 6 => .ok <|
    match opX op with
    | 0 =>
      match opY op with
      | 0 => pick xy (.rlcIxd d) (.rlcIyd d)
      | 1 => pick xy (.rrcIxd d) (.rrcIyd d)
      | 2 => pick xy (.rlIxd d) (.rlIyd d)
      | 3 => pick xy (.rrIxd d) (.rrIyd d)
      | 4 => pick xy (.slaIxd d) (.slaIyd d)
      | 5 => pick xy (.sraIxd d) (.sraIyd d)
      | 6 => pick xy (.sllIxd d) (.sllIyd d)
      | 7 => pick xy (.srlIxd d) (.srlIyd d)
    | 1 => pick xy (.bitBIxd d b) (.bitBIyd d b)
    | 2 => pick xy (.resBIxd d b) (.resBIyd d b)
    | 3 => pick xy (.setBIxd d b) (.setBIyd d b)
  | _ => .error (.undefinedXYCB xy op)

/-- The ED table (R316); `n1 n2` are the two bytes after the opcode byte. -/
def decodeED (b1 n1 n2 : Byte) : Except DecodeError Instr :=
  let bad : Except DecodeError Instr := .error (.undefinedED b1)
  let p : Pair := pairOf (opPair b1)
  let nn : Word := cat n2 n1
  match opX b1 with
  | 0 => bad
  | 1 =>
    match opZ b1 with
    | 0 => regOr (fun r => .ok (.inRC r)) bad (opY b1)
    | 1 => regOr (fun r => .ok (.outCR r)) bad (opY b1)
    | 2 => .ok (if b1.getLsbD 3 then .adcHlSs p else .sbcHlSs p)
    | 3 => .ok (if b1.getLsbD 3 then .ldDdMem p nn else .ldMemDd nn p)
    | 4 => match opY b1 with | 0 => .ok .neg | _ => bad
    | 5 => match opY b1 with | 0 => .ok .retn | 1 => .ok .reti | _ => bad
    | 6 => match opY b1 with | 0 => .ok .im0 | 2 => .ok .im1 | 3 => .ok .im2 | _ => bad
    | 7 =>
      match opY b1 with
      | 0 => .ok .ldIA | 1 => .ok .ldRefreshA | 2 => .ok .ldAI | 3 => .ok .ldARefresh
      | 4 => .ok .rrd | 5 => .ok .rld | _ => bad
  | 2 =>
    match opY b1, opZ b1 with
    | 4, 0 => .ok .ldi | 4, 1 => .ok .cpi | 4, 2 => .ok .ini | 4, 3 => .ok .outi
    | 5, 0 => .ok .ldd | 5, 1 => .ok .cpd | 5, 2 => .ok .ind | 5, 3 => .ok .outd
    | 6, 0 => .ok .ldir | 6, 1 => .ok .cpir | 6, 2 => .ok .inir | 6, 3 => .ok .otir
    | 7, 0 => .ok .lddr | 7, 1 => .ok .cpdr | 7, 2 => .ok .indr | 7, 3 => .ok .otdr
    | _, _ => bad
  | 3 => bad

/-- A register field of the index-half loads: 100 and 101 are the halves; 110 is no operand of theirs (R304, R419). -/
def regXOf : Fin 8 → Option RegX
  | 0 => some .b | 1 => some .c | 2 => some .d | 3 => some .e
  | 4 => some .hi | 5 => some .lo | 6 => none | 7 => some .a

/-- A register field that must name an index half (R303, R304). -/
def halfOf : Fin 8 → Option Half
  | 4 => some .hi
  | 5 => some .lo
  | _ => none

/-- The 8-bit ALU rows of the DD and FD table: the operation is `y`, the operand is an index half or `(XY+d)` (R307, R603). -/
def aluXY (xy : XY) (d : Byte) (y z : Fin 8) : Option Instr :=
  match z with
  | 6 => some <|
    match y with
    | 0 => pick xy (.addIxd d) (.addIyd d)
    | 1 => pick xy (.adcIxd d) (.adcIyd d)
    | 2 => pick xy (.subIxd d) (.subIyd d)
    | 3 => pick xy (.sbcIxd d) (.sbcIyd d)
    | 4 => pick xy (.andIxd d) (.andIyd d)
    | 5 => pick xy (.xorIxd d) (.xorIyd d)
    | 6 => pick xy (.orIxd d) (.orIyd d)
    | 7 => pick xy (.cpIxd d) (.cpIyd d)
  | _ => (halfOf z).map fun h =>
    match y with
    | 0 => pick xy (.addIxh h) (.addIyh h)
    | 1 => pick xy (.adcIxh h) (.adcIyh h)
    | 2 => pick xy (.subIxh h) (.subIyh h)
    | 3 => pick xy (.sbcIxh h) (.sbcIyh h)
    | 4 => pick xy (.andIxh h) (.andIyh h)
    | 5 => pick xy (.xorIxh h) (.xorIyh h)
    | 6 => pick xy (.orIxh h) (.orIyh h)
    | 7 => pick xy (.cpIxh h) (.cpIyh h)

/-- The DD and FD table (R317); `n1 n2` are the two bytes after the opcode byte. -/
def xyRow (xy : XY) (b1 n1 n2 : Byte) : Option Instr :=
  let nn : Word := cat n2 n1
  match opX b1 with
  | 0 =>
    match opZ b1 with
    | 1 =>
      if b1.getLsbD 3 then some (pick xy (.addIxPp (pairXOf (opPair b1))) (.addIyPp (pairXOf (opPair b1))))
      else match opY b1 with | 4 => some (pick xy (.ldIxNn nn) (.ldIyNn nn)) | _ => none
    | 2 =>
      match opY b1 with
      | 4 => some (pick xy (.ldMemIx nn) (.ldMemIy nn))
      | 5 => some (pick xy (.ldIxMem nn) (.ldIyMem nn))
      | _ => none
    | 3 =>
      match opY b1 with
      | 4 => some (pick xy .incIx .incIy)
      | 5 => some (pick xy .decIx .decIy)
      | _ => none
    | 4 =>
      match opY b1 with
      | 6 => some (pick xy (.incIxd n1) (.incIyd n1))
      | y => (halfOf y).map fun h => pick xy (.incIxh h) (.incIyh h)
    | 5 =>
      match opY b1 with
      | 6 => some (pick xy (.decIxd n1) (.decIyd n1))
      | y => (halfOf y).map fun h => pick xy (.decIxh h) (.decIyh h)
    | 6 =>
      match opY b1 with
      | 6 => some (pick xy (.ldIxdN n1 n2) (.ldIydN n1 n2))
      | y => (halfOf y).map fun h => pick xy (.ldIxhN h n1) (.ldIyhN h n1)
    | _ => none
  | 1 =>
    match opY b1, opZ b1 with
    | 6, z => regOr (fun r => some (pick xy (.ldIxdR n1 r) (.ldIydR n1 r))) none z
    | y, 6 => regOr (fun r => some (pick xy (.ldRIxd r n1) (.ldRIyd r n1))) none y
    | y, z =>
      match regXOf y, regXOf z with
      | some r, some r' =>
        if r.isHalf || r'.isHalf then some (pick xy (.ldIxHalves r r') (.ldIyHalves r r')) else none
      | _, _ => none
  | 2 => aluXY xy n1 (opY b1) (opZ b1)
  | 3 =>
    match opY b1, opZ b1 with
    | 4, 1 => some (pick xy .popIx .popIy)
    | 4, 3 => some (pick xy .exSpIx .exSpIy)
    | 4, 5 => some (pick xy .pushIx .pushIy)
    | 5, 1 => some (pick xy .jpIx .jpIy)
    | 7, 1 => some (pick xy .ldSpIx .ldSpIy)
    | _, _ => none

/-- The bytes after DD or FD (R301): CB selects the DD CB or FD CB table, any other byte its row of the DD or FD table. -/
def decodeXY (xy : XY) (b1 b2 b3 : Byte) : Except DecodeError Instr :=
  if b1 = 0xCB#8 then decodeXYCB xy b2 b3
  else
    match xyRow xy b1 b2 b3 with
    | some i => .ok i
    | none => .error (.undefinedXY xy b1)

/-- The 8-bit ALU rows of the unprefixed table with a register or `(HL)` (R307, R603). -/
def aluU (y z : Fin 8) : Instr :=
  match y with
  | 0 => regOr .addR .addHl z
  | 1 => regOr .adcR .adcHl z
  | 2 => regOr .subR .subHl z
  | 3 => regOr .sbcR .sbcHl z
  | 4 => regOr .andR .andHl z
  | 5 => regOr .xorR .xorHl z
  | 6 => regOr .orR .orHl z
  | 7 => regOr .cpR .cpHl z

/-- The 8-bit ALU rows with an immediate (R307, R603). -/
def aluN (n : Byte) : Fin 8 → Instr
  | 0 => .addN n
  | 1 => .adcN n
  | 2 => .subN n
  | 3 => .sbcN n
  | 4 => .andN n
  | 5 => .xorN n
  | 6 => .orN n
  | 7 => .cpN n

/-- The decoder (R301): the instruction that the four bytes at `PC` begin, or the reason there is none. -/
def decode4 (b0 b1 b2 b3 : Byte) : Except DecodeError Instr :=
  let p : Pair := pairOf (opPair b0)
  let nn : Word := cat b2 b1
  match opX b0 with
  | 0 =>
    match opZ b0 with
    | 0 => .ok <|
      match opY b0 with
      | 0 => .nop | 1 => .exAfAf | 2 => .djnzE b1 | 3 => .jrE b1
      | 4 => .jrCcE .nz b1 | 5 => .jrCcE .z b1 | 6 => .jrCcE .nc b1 | 7 => .jrCcE .c b1
    | 1 => .ok (if b0.getLsbD 3 then .addHlSs p else .ldDdNn p nn)
    | 2 => .ok <|
      match opY b0 with
      | 0 => .ldBcA | 1 => .ldABc | 2 => .ldDeA | 3 => .ldADe
      | 4 => .ldMemHl nn | 5 => .ldHlMem nn | 6 => .ldNnA nn | 7 => .ldANn nn
    | 3 => .ok (if b0.getLsbD 3 then .decSs p else .incSs p)
    | 4 => .ok (regOr .incR .incHl (opY b0))
    | 5 => .ok (regOr .decR .decHl (opY b0))
    | 6 => .ok (regOr (fun r => .ldRN r b1) (.ldHlN b1) (opY b0))
    | 7 => .ok <|
      match opY b0 with
      | 0 => .rlca | 1 => .rrca | 2 => .rla | 3 => .rra | 4 => .daa | 5 => .cpl | 6 => .scf | 7 => .ccf
  | 1 =>
    .ok (regOr (fun r => regOr (fun r' => .ldRR r r') (.ldRHl r) (opZ b0)) (regOr .ldHlR .halt (opZ b0)) (opY b0))
  | 2 => .ok (aluU (opY b0) (opZ b0))
  | 3 =>
    match opZ b0 with
    | 0 => .ok (.retCc (condOf (opY b0)))
    | 1 => .ok <|
      match opY b0 with
      | 1 => .ret | 3 => .exx | 5 => .jpHl | 7 => .ldSpHl
      | _ => .popQq (pairAfOf (opPair b0))
    | 2 => .ok (.jpCcNn (condOf (opY b0)) nn)
    | 3 =>
      match opY b0 with
      | 0 => .ok (.jpNn nn) | 1 => .ok (decodeCB b1) | 2 => .ok (.outNA b1) | 3 => .ok (.inAN b1)
      | 4 => .ok .exSpHl | 5 => .ok .exDeHl | 6 => .ok .di | 7 => .ok .ei
    | 4 => .ok (.callCcNn (condOf (opY b0)) nn)
    | 5 =>
      match opY b0 with
      | 1 => .ok (.callNn nn) | 3 => decodeXY .ix b1 b2 b3 | 5 => decodeED b1 b2 b3 | 7 => decodeXY .iy b1 b2 b3
      | _ => .ok (.pushQq (pairAfOf (opPair b0)))
    | 6 => .ok (aluN b1 (opY b0))
    | 7 => .ok (.rstP (opY b0))

/-- The decoder on a list of bytes: the instruction and the rest of the list. A byte past the end of the list selects a row
as 0x00 does; an instruction longer than the list is `truncated`. -/
def decode (bs : List Byte) : Except DecodeError (Instr × List Byte) :=
  match decode4 (bs.getD 0 0) (bs.getD 1 0) (bs.getD 2 0) (bs.getD 3 0) with
  | .ok i => if i.length ≤ bs.length then .ok (i, bs.drop i.length) else .error .truncated
  | .error e => .error (if bs.isEmpty then .truncated else e)

/-! ## The encoder (R303 to R310 and the encoding of each row) -/

/-- The opcode byte `x[7:6] y[5:3] z[2:0]` (R303). -/
def op (x : BitVec 2) (y z : BitVec 3) : Byte := x ++ y ++ z

/-- The opcode byte with a register-pair field in bits 5:4 (R303). -/
def opP (x p : BitVec 2) (q : BitVec 4) : Byte := x ++ p ++ q

/-- The code of a register (R304). -/
def Reg8.code : Reg8 → BitVec 3
  | .b => 0b000 | .c => 0b001 | .d => 0b010 | .e => 0b011 | .h => 0b100 | .l => 0b101 | .a => 0b111

/-- The code of a register or index half (R304, R419). -/
def RegX.code : RegX → BitVec 3
  | .b => 0b000 | .c => 0b001 | .d => 0b010 | .e => 0b011 | .hi => 0b100 | .lo => 0b101 | .a => 0b111

/-- The code of an index half (R304). -/
def Half.code : Half → BitVec 3
  | .hi => 0b100 | .lo => 0b101

/-- The code of a register pair `rp` (R305). -/
def Pair.code : Pair → BitVec 2
  | .bc => 0b00 | .de => 0b01 | .hl => 0b10 | .sp => 0b11

/-- The code of a register pair `rp2` (R305). -/
def PairAf.code : PairAf → BitVec 2
  | .bc => 0b00 | .de => 0b01 | .hl => 0b10 | .af => 0b11

/-- The code of a register pair of `ADD IX,pp` (R305). -/
def PairX.code : PairX → BitVec 2
  | .bc => 0b00 | .de => 0b01 | .xy => 0b10 | .sp => 0b11

/-- The code of a condition (R306). -/
def Cond.code : Cond → BitVec 3
  | .nz => 0b000 | .z => 0b001 | .nc => 0b010 | .c => 0b011 | .po => 0b100 | .pe => 0b101 | .p => 0b110 | .m => 0b111

/-- The code of a condition of `JR cc,e`: `1 cc` in bits 5:3 (R306, R1104). -/
def JrCond.code : JrCond → BitVec 3
  | .nz => 0b100 | .z => 0b101 | .nc => 0b110 | .c => 0b111

/-- A bit number or restart index as a field (R303, R308). -/
def bitCode (b : Fin 8) : BitVec 3 := BitVec.ofFin b

/-- The bytes of an instruction in address order (R310): the encoding of its row. -/
def encode : Instr → List Byte
  | .ldRR r r' => [op 0b01 r.code r'.code]
  | .ldRN r n => [op 0b00 r.code 0b110, n]
  | .ldRHl r => [op 0b01 r.code 0b110]
  | .ldRIxd r d => [0xDD, op 0b01 r.code 0b110, d]
  | .ldRIyd r d => [0xFD, op 0b01 r.code 0b110, d]
  | .ldHlR r => [op 0b01 0b110 r.code]
  | .ldIxdR d r => [0xDD, op 0b01 0b110 r.code, d]
  | .ldIydR d r => [0xFD, op 0b01 0b110 r.code, d]
  | .ldHlN n => [0x36, n]
  | .ldIxdN d n => [0xDD, 0x36, d, n]
  | .ldIydN d n => [0xFD, 0x36, d, n]
  | .ldABc => [0x0A]
  | .ldADe => [0x1A]
  | .ldANn nn => [0x3A, lo8 nn, hi8 nn]
  | .ldBcA => [0x02]
  | .ldDeA => [0x12]
  | .ldNnA nn => [0x32, lo8 nn, hi8 nn]
  | .ldAI => [0xED, 0x57]
  | .ldARefresh => [0xED, 0x5F]
  | .ldIA => [0xED, 0x47]
  | .ldRefreshA => [0xED, 0x4F]
  | .ldIxHalves r r' => [0xDD, op 0b01 r.code r'.code]
  | .ldIyHalves r r' => [0xFD, op 0b01 r.code r'.code]
  | .ldIxhN h n => [0xDD, op 0b00 h.code 0b110, n]
  | .ldIyhN h n => [0xFD, op 0b00 h.code 0b110, n]
  | .ldDdNn p nn => [opP 0b00 p.code 0b0001, lo8 nn, hi8 nn]
  | .ldIxNn nn => [0xDD, 0x21, lo8 nn, hi8 nn]
  | .ldIyNn nn => [0xFD, 0x21, lo8 nn, hi8 nn]
  | .ldHlMem nn => [0x2A, lo8 nn, hi8 nn]
  | .ldDdMem p nn => [0xED, opP 0b01 p.code 0b1011, lo8 nn, hi8 nn]
  | .ldIxMem nn => [0xDD, 0x2A, lo8 nn, hi8 nn]
  | .ldIyMem nn => [0xFD, 0x2A, lo8 nn, hi8 nn]
  | .ldMemHl nn => [0x22, lo8 nn, hi8 nn]
  | .ldMemDd nn p => [0xED, opP 0b01 p.code 0b0011, lo8 nn, hi8 nn]
  | .ldMemIx nn => [0xDD, 0x22, lo8 nn, hi8 nn]
  | .ldMemIy nn => [0xFD, 0x22, lo8 nn, hi8 nn]
  | .ldSpHl => [0xF9]
  | .ldSpIx => [0xDD, 0xF9]
  | .ldSpIy => [0xFD, 0xF9]
  | .pushQq p => [opP 0b11 p.code 0b0101]
  | .pushIx => [0xDD, 0xE5]
  | .pushIy => [0xFD, 0xE5]
  | .popQq p => [opP 0b11 p.code 0b0001]
  | .popIx => [0xDD, 0xE1]
  | .popIy => [0xFD, 0xE1]
  | .exDeHl => [0xEB]
  | .exAfAf => [0x08]
  | .exx => [0xD9]
  | .exSpHl => [0xE3]
  | .exSpIx => [0xDD, 0xE3]
  | .exSpIy => [0xFD, 0xE3]
  | .ldi => [0xED, 0xA0]
  | .ldir => [0xED, 0xB0]
  | .ldd => [0xED, 0xA8]
  | .lddr => [0xED, 0xB8]
  | .cpi => [0xED, 0xA1]
  | .cpir => [0xED, 0xB1]
  | .cpd => [0xED, 0xA9]
  | .cpdr => [0xED, 0xB9]
  | .addR r => [op 0b10 0b000 r.code]
  | .addN n => [op 0b11 0b000 0b110, n]
  | .addHl => [op 0b10 0b000 0b110]
  | .addIxd d => [0xDD, op 0b10 0b000 0b110, d]
  | .addIyd d => [0xFD, op 0b10 0b000 0b110, d]
  | .addIxh h => [0xDD, op 0b10 0b000 h.code]
  | .addIyh h => [0xFD, op 0b10 0b000 h.code]
  | .adcR r => [op 0b10 0b001 r.code]
  | .adcN n => [op 0b11 0b001 0b110, n]
  | .adcHl => [op 0b10 0b001 0b110]
  | .adcIxd d => [0xDD, op 0b10 0b001 0b110, d]
  | .adcIyd d => [0xFD, op 0b10 0b001 0b110, d]
  | .adcIxh h => [0xDD, op 0b10 0b001 h.code]
  | .adcIyh h => [0xFD, op 0b10 0b001 h.code]
  | .subR r => [op 0b10 0b010 r.code]
  | .subN n => [op 0b11 0b010 0b110, n]
  | .subHl => [op 0b10 0b010 0b110]
  | .subIxd d => [0xDD, op 0b10 0b010 0b110, d]
  | .subIyd d => [0xFD, op 0b10 0b010 0b110, d]
  | .subIxh h => [0xDD, op 0b10 0b010 h.code]
  | .subIyh h => [0xFD, op 0b10 0b010 h.code]
  | .sbcR r => [op 0b10 0b011 r.code]
  | .sbcN n => [op 0b11 0b011 0b110, n]
  | .sbcHl => [op 0b10 0b011 0b110]
  | .sbcIxd d => [0xDD, op 0b10 0b011 0b110, d]
  | .sbcIyd d => [0xFD, op 0b10 0b011 0b110, d]
  | .sbcIxh h => [0xDD, op 0b10 0b011 h.code]
  | .sbcIyh h => [0xFD, op 0b10 0b011 h.code]
  | .andR r => [op 0b10 0b100 r.code]
  | .andN n => [op 0b11 0b100 0b110, n]
  | .andHl => [op 0b10 0b100 0b110]
  | .andIxd d => [0xDD, op 0b10 0b100 0b110, d]
  | .andIyd d => [0xFD, op 0b10 0b100 0b110, d]
  | .andIxh h => [0xDD, op 0b10 0b100 h.code]
  | .andIyh h => [0xFD, op 0b10 0b100 h.code]
  | .xorR r => [op 0b10 0b101 r.code]
  | .xorN n => [op 0b11 0b101 0b110, n]
  | .xorHl => [op 0b10 0b101 0b110]
  | .xorIxd d => [0xDD, op 0b10 0b101 0b110, d]
  | .xorIyd d => [0xFD, op 0b10 0b101 0b110, d]
  | .xorIxh h => [0xDD, op 0b10 0b101 h.code]
  | .xorIyh h => [0xFD, op 0b10 0b101 h.code]
  | .orR r => [op 0b10 0b110 r.code]
  | .orN n => [op 0b11 0b110 0b110, n]
  | .orHl => [op 0b10 0b110 0b110]
  | .orIxd d => [0xDD, op 0b10 0b110 0b110, d]
  | .orIyd d => [0xFD, op 0b10 0b110 0b110, d]
  | .orIxh h => [0xDD, op 0b10 0b110 h.code]
  | .orIyh h => [0xFD, op 0b10 0b110 h.code]
  | .cpR r => [op 0b10 0b111 r.code]
  | .cpN n => [op 0b11 0b111 0b110, n]
  | .cpHl => [op 0b10 0b111 0b110]
  | .cpIxd d => [0xDD, op 0b10 0b111 0b110, d]
  | .cpIyd d => [0xFD, op 0b10 0b111 0b110, d]
  | .cpIxh h => [0xDD, op 0b10 0b111 h.code]
  | .cpIyh h => [0xFD, op 0b10 0b111 h.code]
  | .incR r => [op 0b00 r.code 0b100]
  | .incHl => [op 0b00 0b110 0b100]
  | .incIxd d => [0xDD, op 0b00 0b110 0b100, d]
  | .incIyd d => [0xFD, op 0b00 0b110 0b100, d]
  | .incIxh h => [0xDD, op 0b00 h.code 0b100]
  | .incIyh h => [0xFD, op 0b00 h.code 0b100]
  | .decR r => [op 0b00 r.code 0b101]
  | .decHl => [op 0b00 0b110 0b101]
  | .decIxd d => [0xDD, op 0b00 0b110 0b101, d]
  | .decIyd d => [0xFD, op 0b00 0b110 0b101, d]
  | .decIxh h => [0xDD, op 0b00 h.code 0b101]
  | .decIyh h => [0xFD, op 0b00 h.code 0b101]
  | .daa => [0x27]
  | .cpl => [0x2F]
  | .neg => [0xED, 0x44]
  | .ccf => [0x3F]
  | .scf => [0x37]
  | .nop => [0x00]
  | .halt => [0x76]
  | .di => [0xF3]
  | .ei => [0xFB]
  | .im0 => [0xED, 0x46]
  | .im1 => [0xED, 0x56]
  | .im2 => [0xED, 0x5E]
  | .addHlSs p => [opP 0b00 p.code 0b1001]
  | .adcHlSs p => [0xED, opP 0b01 p.code 0b1010]
  | .sbcHlSs p => [0xED, opP 0b01 p.code 0b0010]
  | .addIxPp p => [0xDD, opP 0b00 p.code 0b1001]
  | .addIyPp p => [0xFD, opP 0b00 p.code 0b1001]
  | .incSs p => [opP 0b00 p.code 0b0011]
  | .incIx => [0xDD, 0x23]
  | .incIy => [0xFD, 0x23]
  | .decSs p => [opP 0b00 p.code 0b1011]
  | .decIx => [0xDD, 0x2B]
  | .decIy => [0xFD, 0x2B]
  | .rlca => [0x07]
  | .rla => [0x17]
  | .rrca => [0x0F]
  | .rra => [0x1F]
  | .rlcR r => [0xCB, op 0b00 0b000 r.code]
  | .rlcHl => [0xCB, op 0b00 0b000 0b110]
  | .rlcIxd d => [0xDD, 0xCB, d, op 0b00 0b000 0b110]
  | .rlcIyd d => [0xFD, 0xCB, d, op 0b00 0b000 0b110]
  | .rrcR r => [0xCB, op 0b00 0b001 r.code]
  | .rrcHl => [0xCB, op 0b00 0b001 0b110]
  | .rrcIxd d => [0xDD, 0xCB, d, op 0b00 0b001 0b110]
  | .rrcIyd d => [0xFD, 0xCB, d, op 0b00 0b001 0b110]
  | .rlR r => [0xCB, op 0b00 0b010 r.code]
  | .rlHl => [0xCB, op 0b00 0b010 0b110]
  | .rlIxd d => [0xDD, 0xCB, d, op 0b00 0b010 0b110]
  | .rlIyd d => [0xFD, 0xCB, d, op 0b00 0b010 0b110]
  | .rrR r => [0xCB, op 0b00 0b011 r.code]
  | .rrHl => [0xCB, op 0b00 0b011 0b110]
  | .rrIxd d => [0xDD, 0xCB, d, op 0b00 0b011 0b110]
  | .rrIyd d => [0xFD, 0xCB, d, op 0b00 0b011 0b110]
  | .slaR r => [0xCB, op 0b00 0b100 r.code]
  | .slaHl => [0xCB, op 0b00 0b100 0b110]
  | .slaIxd d => [0xDD, 0xCB, d, op 0b00 0b100 0b110]
  | .slaIyd d => [0xFD, 0xCB, d, op 0b00 0b100 0b110]
  | .sraR r => [0xCB, op 0b00 0b101 r.code]
  | .sraHl => [0xCB, op 0b00 0b101 0b110]
  | .sraIxd d => [0xDD, 0xCB, d, op 0b00 0b101 0b110]
  | .sraIyd d => [0xFD, 0xCB, d, op 0b00 0b101 0b110]
  | .sllR r => [0xCB, op 0b00 0b110 r.code]
  | .sllHl => [0xCB, op 0b00 0b110 0b110]
  | .sllIxd d => [0xDD, 0xCB, d, op 0b00 0b110 0b110]
  | .sllIyd d => [0xFD, 0xCB, d, op 0b00 0b110 0b110]
  | .srlR r => [0xCB, op 0b00 0b111 r.code]
  | .srlHl => [0xCB, op 0b00 0b111 0b110]
  | .srlIxd d => [0xDD, 0xCB, d, op 0b00 0b111 0b110]
  | .srlIyd d => [0xFD, 0xCB, d, op 0b00 0b111 0b110]
  | .rld => [0xED, 0x6F]
  | .rrd => [0xED, 0x67]
  | .bitBR b r => [0xCB, op 0b01 (bitCode b) r.code]
  | .bitBHl b => [0xCB, op 0b01 (bitCode b) 0b110]
  | .bitBIxd d b => [0xDD, 0xCB, d, op 0b01 (bitCode b) 0b110]
  | .bitBIyd d b => [0xFD, 0xCB, d, op 0b01 (bitCode b) 0b110]
  | .setBR b r => [0xCB, op 0b11 (bitCode b) r.code]
  | .setBHl b => [0xCB, op 0b11 (bitCode b) 0b110]
  | .setBIxd d b => [0xDD, 0xCB, d, op 0b11 (bitCode b) 0b110]
  | .setBIyd d b => [0xFD, 0xCB, d, op 0b11 (bitCode b) 0b110]
  | .resBR b r => [0xCB, op 0b10 (bitCode b) r.code]
  | .resBHl b => [0xCB, op 0b10 (bitCode b) 0b110]
  | .resBIxd d b => [0xDD, 0xCB, d, op 0b10 (bitCode b) 0b110]
  | .resBIyd d b => [0xFD, 0xCB, d, op 0b10 (bitCode b) 0b110]
  | .jpNn nn => [0xC3, lo8 nn, hi8 nn]
  | .jpCcNn cc nn => [op 0b11 cc.code 0b010, lo8 nn, hi8 nn]
  | .jrE e => [0x18, e]
  | .jrCcE cc e => [op 0b00 cc.code 0b000, e]
  | .jpHl => [0xE9]
  | .jpIx => [0xDD, 0xE9]
  | .jpIy => [0xFD, 0xE9]
  | .djnzE e => [0x10, e]
  | .callNn nn => [0xCD, lo8 nn, hi8 nn]
  | .callCcNn cc nn => [op 0b11 cc.code 0b100, lo8 nn, hi8 nn]
  | .rstP t => [op 0b11 (bitCode t) 0b111]
  | .ret => [0xC9]
  | .retCc cc => [op 0b11 cc.code 0b000]
  | .reti => [0xED, 0x4D]
  | .retn => [0xED, 0x45]
  | .inAN n => [0xDB, n]
  | .inRC r => [0xED, op 0b01 r.code 0b000]
  | .ini => [0xED, 0xA2]
  | .inir => [0xED, 0xB2]
  | .ind => [0xED, 0xAA]
  | .indr => [0xED, 0xBA]
  | .outNA n => [0xD3, n]
  | .outCR r => [0xED, op 0b01 r.code 0b001]
  | .outi => [0xED, 0xA3]
  | .otir => [0xED, 0xB3]
  | .outd => [0xED, 0xAB]
  | .otdr => [0xED, 0xBB]

/-! ## The numbering of spec/opcode_table.json -/

/-- The bytes of `w`, `n` of them, the first one the most significant: the numbering of the table's `match`, `fixed` and
`fields` (log 16). -/
def bytesOfWord : Nat → Nat → List Byte
  | 0, _ => []
  | n + 1, w => BitVec.ofNat 8 (w >>> (8 * n)) :: bytesOfWord n w

/-- The instruction of exactly `bs.length` bytes that `bs` is, if it is one. -/
def decodeExact (bs : List Byte) : Option Instr :=
  match decode bs with
  | .ok (i, []) => some i
  | _ => none

/-- The bytes a table word stands for: the first byte most significant, as the table numbers them; where those bytes are no
instruction of that length and the bytes taken the other way round are one, the latter (log 16). -/
def tableBytes (nbits w : Nat) : List Byte :=
  let bs := bytesOfWord (nbits / 8) w
  match decodeExact bs, decodeExact bs.reverse with
  | none, some _ => bs.reverse
  | _, _ => bs

/-- The instruction the decoder reads from a word numbered as spec/opcode_table.json numbers it, the bytes after it zero. -/
def decodeTableWord (nbits w : Nat) : Option Instr :=
  let bs := tableBytes nbits w
  match decode4 (bs.getD 0 0) (bs.getD 1 0) (bs.getD 2 0) (bs.getD 3 0) with
  | .ok i => some i
  | .error _ => none

end Sys2Proof
end

