-- ==== Sys2Proof/Machine/Interrupts.lean ====
section
/-! DEFINITION. The interrupt lines, the halted idle step and the acceptance of NMI and INT (60_exceptions.md R1502 to R1513). -/

namespace Sys2Proof.Machine

namespace State

/-- An NMI is pending. Never, where the host does not model interrupts (R1502). -/
def nmiPending (s : State) : Bool := s.cfg.interruptsModeled && s.host.nmiPending

/-- The bus byte of an INT that can be accepted now: asserted, `IFF1 = 1` and `EI_DELAY = 0` (R1502, R1503, R1505). -/
def intRequest (s : State) : Option Byte :=
  if s.cfg.interruptsModeled && s.cpu.iff1 && !s.cpu.eiDelay then s.host.intLine else none

end State

/-- `HaltedIdle()` (R1507). -/
def haltedIdle (s : State) : Result := .next ((s.bump 1).setEiDelay false)

/-- `AcceptNmi()` (R1510): `IFF2` keeps its value. -/
def acceptNmi (s : State) : Result :=
  .next (enterHandler s.cpu.iff2 (fun _ => 0x0066#16) (s.withHost fun h => { h with nmiPending := false }))

/-- The address of `AcceptIm2(bus)`: the word at `(I << 8) | bus`, read after the push (R1513; log 19). -/
def im2Target (bus : Byte) (s : State) : Word := s.peek16 (cat s.cpu.i bus)

/-- `AcceptInt()` (R1511 to R1513). The line itself is the host's to change (R1502). -/
def acceptInt (bus : Byte) (s : State) : Result :=
  match s.cpu.im with
  | .im0 =>
    if bus &&& 0xC7#8 = 0xC7#8 then .next (enterHandler false (fun _ => cat 0x00#8 (bus &&& 0x38#8)) s)
    else raise (.unsupportedIm0Opcode s.cpu.pc [bus]) s
  | .im1 => .next (enterHandler false (fun _ => 0x0038#16) s)
  | .im2 => .next (enterHandler false (im2Target bus) s)

end Sys2Proof.Machine
end

