-- ==== Sys2Proof/Machine/Events.lean ====
section
/-! DEFINITION. What one `LoopStep` does (49_cpm_traps.md R1311, 60_exceptions.md R1503), and the fetch (R300, R301, R309). -/

namespace Sys2Proof.Machine

/-- The one thing a `LoopStep` of a running machine does (R1311). -/
inductive Event where
  | nmi
  | int (bus : Byte)
  | idle
  | exit
  | bdos
  | bios (slot : Nat)
  | instruction
deriving DecidableEq, Repr

/-- Which of them, in the order of R1311 and R1503: NMI, INT, halted idle, the traps, an instruction. -/
def nextEvent (s : State) : Event :=
  if s.nmiPending then .nmi
  else
    match s.intRequest with
    | some bus => .int bus
    | none =>
      if s.cpu.halt then .idle
      else
        match trapKind s.cfg.biosBase s.cpu.pc with
        | .exit => .exit
        | .bdos => .bdos
        | .bios slot => .bios slot
        | .none => .instruction

/-- The instruction whose bytes stand at `PC`, read before any effect of it (R224, R301, R309). -/
def fetch (s : State) : Except DecodeError Instr :=
  decode4 (s.peek s.cpu.pc) (s.peek (s.cpu.pc + 1)) (s.peek (s.cpu.pc + 2)) (s.peek (s.cpu.pc + 3))

/-- Bytes with no row (R301, R311). -/
def unsupported (s : State) : Result := raise (.unsupportedOpcode s.cpu.pc s.pcBytes) s

/-- Where `withFetchWord` puts the instruction: `PC` itself, or the first address after it that is no trap. -/
def fetchPlace (s : State) : Word :=
  let plain (a : Word) : Bool := trapKind s.cfg.biosBase a == .none
  if plain s.cpu.pc then s.cpu.pc else if plain (s.cpu.pc + 1) then s.cpu.pc + 1 else s.cpu.pc + 2

/-- `s` made to run the four bytes `bs` at its next step: written at `fetchPlace`, `PC` there, running, not halted, no
interrupt waiting (log 4). -/
def placeInstruction (bs : List Byte) (s : State) : State :=
  let a := fetchPlace s
  let s := (((s.pokeBytes a bs).setPc a).setHalt false).setStatus .running
  s.withHost fun h => { h with nmiPending := false, intLine := none }

end Sys2Proof.Machine
end

