-- ==== Sys2Proof/Machine/Step.lean ====
section
/-! DEFINITION. One step of the machine: one `LoopStep` (49_cpm_traps.md R1311). -/

namespace Sys2Proof.Machine

/-- The instruction step: `Step()` of R1311. -/
def instructionStep (s : State) : Host.Outcome State Fault Refusal :=
  match fetch s with
  | .ok i => exec i s
  | .error _ => unsupported s

/-- `LoopStep()` of a running machine (R1311). -/
def loopStep (s : State) : Host.Outcome State Fault Refusal :=
  match nextEvent s with
  | .nmi => acceptNmi s
  | .int bus => acceptInt bus s
  | .idle => haltedIdle s
  | .exit => exitTrap s
  | .bdos => bdosTrap s
  | .bios slot => biosTrap slot s
  | .instruction => instructionStep s

/-- One step. "Only `Running` has a next step; `Exited` and `Faulted` are final" (R126; log 1). -/
def step (s : State) : Host.Outcome State Fault Refusal :=
  match s.status with
  | .running => loopStep s
  | .exited => .refused .exited
  | .faulted f => .fault f

/-- `s` with the instruction of a table word stored where the next step fetches it, the bytes after it zero. -/
def State.withFetchWord (s : State) (nbits w : Nat) : State :=
  placeInstruction ((tableBytes nbits w ++ [0, 0, 0, 0]).take 4) s

end Sys2Proof.Machine
end

