-- ==== Sys2Proof/Machine/Launch.lean ====
section
/-! DEFINITION. The launch of a run (70_reset_and_hazards.md R1600 to R1605) and the constraints on `BIOS_BASE` (D50). -/

namespace Sys2Proof.Machine

open Sys2Proof.Config (Params)

/-- Slot `i` of `n` slots from `i` on is neither 0x0000 nor 0x0005 (D50). -/
def slotsClear (base : Word) : Nat → Nat → Bool
  | 0, _ => true
  | n + 1, i =>
    let a := base + BitVec.ofNat 16 (3 * i)
    a != 0x0000#16 && a != 0x0005#16 && slotsClear base n (i + 1)

/-- The constraints of D50: `BIOS_BASE + 50 ≤ 0xFFFF` and no slot address equals 0x0000 or 0x0005. -/
def paramsOk (p : Params) : Bool := decide (p.biosBase.toNat + 50 ≤ 0xFFFF) && slotsClear p.biosBase 17 0

/-- The two forms of a launch (R1600). -/
inductive LaunchForm where
  | program
  | coldBoot
deriving DecidableEq, Repr

/-- The load and entry address of a form (R1600). -/
def loadAddress (p : Params) : LaunchForm → Word
  | .program => 0x0100#16
  | .coldBoot => 0x3400#16 + p.bias

/-- `SeedRegisters()` (R1603, R128) and `PC <- entry` (R1604): the registers the spec leaves to the launch keep what `c`
holds. -/
def launchCpu (entry : Word) (c : Cpu) : Cpu :=
  { c with c := 0x00#8, sp := 0x0100#16, pc := entry, i := 0x00#8, r := 0x00#8, iff1 := false, iff2 := false,
           im := .im0, halt := false, eiDelay := false }

/-- `Launch(image, load_at, entry)` (R1600 to R1604, D49). The launch inputs (registers, memory, host, parameters) are those
of `s`. An image that does not fit sets `STATUS` alone (log 21); a refused `BIOS_BASE` does not launch (log 20). -/
def launchAt (image : List Byte) (loadAt entry : Word) (s : State) : Result :=
  if !paramsOk s.cfg then .refused .biosBaseRefused
  else if loadAt.toNat + image.length > 0x10000 then raise (.imageTooLarge loadAt image.length) s
  else .next { s with cpu := launchCpu entry s.cpu, mem := Memory.seed s.cfg (s.mem.writeBytes loadAt image),
                      amb := Ambient.reset, status := .running }

/-- The launch in one of its two forms (R1600). -/
def launch (form : LaunchForm) (image : List Byte) (s : State) : Result :=
  launchAt image (loadAddress s.cfg form) (loadAddress s.cfg form) s

end Sys2Proof.Machine
end

