-- ==== Sys2Proof/Machine/Timing.lean ====
section
/-!
DEFINITION. The T-state counts (70_reset_and_hazards.md R1620, R1621): the `cycles` of each row, and of the events that are
no instruction (D37, D53). They are not state, and nothing depends on them (log 17).
-/

namespace Sys2Proof.Machine

/-- The `cycles` of each row: the first figure where a condition holds or a block instruction repeats, the second otherwise
(R309). -/
def rowCycles : Instr → Nat × Nat
  | .ldRR _ _ => (4, 4)
  | .ldRN _ _ => (7, 7)
  | .ldRHl _ => (7, 7)
  | .ldRIxd _ _ => (19, 19)
  | .ldRIyd _ _ => (19, 19)
  | .ldHlR _ => (7, 7)
  | .ldIxdR _ _ => (19, 19)
  | .ldIydR _ _ => (19, 19)
  | .ldHlN _ => (10, 10)
  | .ldIxdN _ _ => (19, 19)
  | .ldIydN _ _ => (19, 19)
  | .ldABc => (7, 7)
  | .ldADe => (7, 7)
  | .ldANn _ => (13, 13)
  | .ldBcA => (7, 7)
  | .ldDeA => (7, 7)
  | .ldNnA _ => (13, 13)
  | .ldAI => (9, 9)
  | .ldARefresh => (9, 9)
  | .ldIA => (9, 9)
  | .ldRefreshA => (9, 9)
  | .ldIxHalves _ _ => (8, 8)
  | .ldIyHalves _ _ => (8, 8)
  | .ldIxhN _ _ => (11, 11)
  | .ldIyhN _ _ => (11, 11)
  | .ldDdNn _ _ => (10, 10)
  | .ldIxNn _ => (14, 14)
  | .ldIyNn _ => (14, 14)
  | .ldHlMem _ => (16, 16)
  | .ldDdMem _ _ => (20, 20)
  | .ldIxMem _ => (20, 20)
  | .ldIyMem _ => (20, 20)
  | .ldMemHl _ => (16, 16)
  | .ldMemDd _ _ => (20, 20)
  | .ldMemIx _ => (20, 20)
  | .ldMemIy _ => (20, 20)
  | .ldSpHl => (6, 6)
  | .ldSpIx => (10, 10)
  | .ldSpIy => (10, 10)
  | .pushQq _ => (11, 11)
  | .pushIx => (15, 15)
  | .pushIy => (15, 15)
  | .popQq _ => (10, 10)
  | .popIx => (14, 14)
  | .popIy => (14, 14)
  | .exDeHl => (4, 4)
  | .exAfAf => (4, 4)
  | .exx => (4, 4)
  | .exSpHl => (19, 19)
  | .exSpIx => (23, 23)
  | .exSpIy => (23, 23)
  | .ldi => (16, 16)
  | .ldir => (21, 16)
  | .ldd => (16, 16)
  | .lddr => (21, 16)
  | .cpi => (16, 16)
  | .cpir => (21, 16)
  | .cpd => (16, 16)
  | .cpdr => (21, 16)
  | .addR _ => (4, 4)
  | .addN _ => (7, 7)
  | .addHl => (7, 7)
  | .addIxd _ => (19, 19)
  | .addIyd _ => (19, 19)
  | .addIxh _ => (8, 8)
  | .addIyh _ => (8, 8)
  | .adcR _ => (4, 4)
  | .adcN _ => (7, 7)
  | .adcHl => (7, 7)
  | .adcIxd _ => (19, 19)
  | .adcIyd _ => (19, 19)
  | .adcIxh _ => (8, 8)
  | .adcIyh _ => (8, 8)
  | .subR _ => (4, 4)
  | .subN _ => (7, 7)
  | .subHl => (7, 7)
  | .subIxd _ => (19, 19)
  | .subIyd _ => (19, 19)
  | .subIxh _ => (8, 8)
  | .subIyh _ => (8, 8)
  | .sbcR _ => (4, 4)
  | .sbcN _ => (7, 7)
  | .sbcHl => (7, 7)
  | .sbcIxd _ => (19, 19)
  | .sbcIyd _ => (19, 19)
  | .sbcIxh _ => (8, 8)
  | .sbcIyh _ => (8, 8)
  | .andR _ => (4, 4)
  | .andN _ => (7, 7)
  | .andHl => (7, 7)
  | .andIxd _ => (19, 19)
  | .andIyd _ => (19, 19)
  | .andIxh _ => (8, 8)
  | .andIyh _ => (8, 8)
  | .xorR _ => (4, 4)
  | .xorN _ => (7, 7)
  | .xorHl => (7, 7)
  | .xorIxd _ => (19, 19)
  | .xorIyd _ => (19, 19)
  | .xorIxh _ => (8, 8)
  | .xorIyh _ => (8, 8)
  | .orR _ => (4, 4)
  | .orN _ => (7, 7)
  | .orHl => (7, 7)
  | .orIxd _ => (19, 19)
  | .orIyd _ => (19, 19)
  | .orIxh _ => (8, 8)
  | .orIyh _ => (8, 8)
  | .cpR _ => (4, 4)
  | .cpN _ => (7, 7)
  | .cpHl => (7, 7)
  | .cpIxd _ => (19, 19)
  | .cpIyd _ => (19, 19)
  | .cpIxh _ => (8, 8)
  | .cpIyh _ => (8, 8)
  | .incR _ => (4, 4)
  | .incHl => (11, 11)
  | .incIxd _ => (23, 23)
  | .incIyd _ => (23, 23)
  | .incIxh _ => (8, 8)
  | .incIyh _ => (8, 8)
  | .decR _ => (4, 4)
  | .decHl => (11, 11)
  | .decIxd _ => (23, 23)
  | .decIyd _ => (23, 23)
  | .decIxh _ => (8, 8)
  | .decIyh _ => (8, 8)
  | .daa => (4, 4)
  | .cpl => (4, 4)
  | .neg => (8, 8)
  | .ccf => (4, 4)
  | .scf => (4, 4)
  | .nop => (4, 4)
  | .halt => (4, 4)
  | .di => (4, 4)
  | .ei => (4, 4)
  | .im0 => (8, 8)
  | .im1 => (8, 8)
  | .im2 => (8, 8)
  | .addHlSs _ => (11, 11)
  | .adcHlSs _ => (15, 15)
  | .sbcHlSs _ => (15, 15)
  | .addIxPp _ => (15, 15)
  | .addIyPp _ => (15, 15)
  | .incSs _ => (6, 6)
  | .incIx => (10, 10)
  | .incIy => (10, 10)
  | .decSs _ => (6, 6)
  | .decIx => (10, 10)
  | .decIy => (10, 10)
  | .rlca => (4, 4)
  | .rla => (4, 4)
  | .rrca => (4, 4)
  | .rra => (4, 4)
  | .rlcR _ => (8, 8)
  | .rlcHl => (15, 15)
  | .rlcIxd _ => (23, 23)
  | .rlcIyd _ => (23, 23)
  | .rrcR _ => (8, 8)
  | .rrcHl => (15, 15)
  | .rrcIxd _ => (23, 23)
  | .rrcIyd _ => (23, 23)
  | .rlR _ => (8, 8)
  | .rlHl => (15, 15)
  | .rlIxd _ => (23, 23)
  | .rlIyd _ => (23, 23)
  | .rrR _ => (8, 8)
  | .rrHl => (15, 15)
  | .rrIxd _ => (23, 23)
  | .rrIyd _ => (23, 23)
  | .slaR _ => (8, 8)
  | .slaHl => (15, 15)
  | .slaIxd _ => (23, 23)
  | .slaIyd _ => (23, 23)
  | .sraR _ => (8, 8)
  | .sraHl => (15, 15)
  | .sraIxd _ => (23, 23)
  | .sraIyd _ => (23, 23)
  | .sllR _ => (8, 8)
  | .sllHl => (15, 15)
  | .sllIxd _ => (23, 23)
  | .sllIyd _ => (23, 23)
  | .srlR _ => (8, 8)
  | .srlHl => (15, 15)
  | .srlIxd _ => (23, 23)
  | .srlIyd _ => (23, 23)
  | .rld => (18, 18)
  | .rrd => (18, 18)
  | .bitBR _ _ => (8, 8)
  | .bitBHl _ => (12, 12)
  | .bitBIxd _ _ => (20, 20)
  | .bitBIyd _ _ => (20, 20)
  | .setBR _ _ => (8, 8)
  | .setBHl _ => (15, 15)
  | .setBIxd _ _ => (23, 23)
  | .setBIyd _ _ => (23, 23)
  | .resBR _ _ => (8, 8)
  | .resBHl _ => (15, 15)
  | .resBIxd _ _ => (23, 23)
  | .resBIyd _ _ => (23, 23)
  | .jpNn _ => (10, 10)
  | .jpCcNn _ _ => (10, 10)
  | .jrE _ => (12, 12)
  | .jrCcE _ _ => (12, 7)
  | .jpHl => (4, 4)
  | .jpIx => (8, 8)
  | .jpIy => (8, 8)
  | .djnzE _ => (13, 8)
  | .callNn _ => (17, 17)
  | .callCcNn _ _ => (17, 10)
  | .rstP _ => (11, 11)
  | .ret => (10, 10)
  | .retCc _ => (11, 5)
  | .reti => (14, 14)
  | .retn => (14, 14)
  | .inAN _ => (11, 11)
  | .inRC _ => (12, 12)
  | .ini => (16, 16)
  | .inir => (21, 16)
  | .ind => (16, 16)
  | .indr => (21, 16)
  | .outNA _ => (11, 11)
  | .outCR _ => (12, 12)
  | .outi => (16, 16)
  | .otir => (21, 16)
  | .outd => (16, 16)
  | .otdr => (21, 16)

/-- Whether the first figure applies: the condition of a conditional transfer holds, or the step `s` to `t` of a repeating
block instruction left `PC` where it was (R309, R520). -/
def firstFigure (i : Instr) (s t : State) : Bool :=
  match i with
  | .jrCcE cc _ => jrCondHolds s.flags cc
  | .callCcNn cc _ => condHolds s.flags cc
  | .retCc cc => condHolds s.flags cc
  | .djnzE _ => s.cpu.b - 1 != 0
  | _ => t.cpu.pc == s.cpu.pc

/-- The T-states of the step from `s` to `t` (R1620): an instruction's row, 11 for NMI, 13, 13 and 19 for INT in modes 0, 1
and 2, 4 for a halted idle step, none for a trap (D37, D53) and none for a step that faults. -/
def stepCycles (s t : State) : Nat :=
  if t.status != .running then 0
  else match nextEvent s with
  | .nmi => 11
  | .int _ =>
    match s.cpu.im with
    | .im0 => 13
    | .im1 => 13
    | .im2 => 19
  | .idle => 4
  | .exit => 0
  | .bdos => 0
  | .bios _ => 0
  | .instruction =>
    match fetch s with
    | .ok i => if firstFigure i s t then (rowCycles i).1 else (rowCycles i).2
    | .error _ => 0

end Sys2Proof.Machine
end

