-- ==== Sys2Proof/Safety.lean ====
section
/-!
DEFINITION. The terms claims are stated in: what a step keeps, what a run may rely on (the invariant), and when a machine has
stopped.
-/

namespace Sys2Proof.Machine

/-! ## Frames -/

/-- The places of the register file (10_state.md R101 to R115) other than `PC`, `R` and `EI_DELAY`, which every step writes. -/
inductive Loc where
  | reg (r : Reg8)
  | f
  | altA | altF | altB | altC | altD | altE | altH | altL
  | ix | iy | sp | i | iff1 | iff2 | im | halt
deriving DecidableEq, Repr

/-- What a place holds, as a number. -/
def State.loc (s : State) : Loc → Nat
  | .reg r => (s.reg r).toNat
  | .f => s.cpu.f.toNat
  | .altA => s.cpu.alt.a.toNat
  | .altF => s.cpu.alt.f.toNat
  | .altB => s.cpu.alt.b.toNat
  | .altC => s.cpu.alt.c.toNat
  | .altD => s.cpu.alt.d.toNat
  | .altE => s.cpu.alt.e.toNat
  | .altH => s.cpu.alt.h.toNat
  | .altL => s.cpu.alt.l.toNat
  | .ix => s.cpu.ix.toNat
  | .iy => s.cpu.iy.toNat
  | .sp => s.cpu.sp.toNat
  | .i => s.cpu.i.toNat
  | .iff1 => s.cpu.iff1.toNat
  | .iff2 => s.cpu.iff2.toNat
  | .im =>
    match s.cpu.im with
    | .im0 => 0
    | .im1 => 1
    | .im2 => 2
  | .halt => s.cpu.halt.toNat

/-- From `s` to `t` nothing changes but the places `changed`, the bytes at the addresses `stored`, `PC`, `R`, `EI_DELAY` and
the host: every other register, every flag unless `f` is among `changed`, every byte of memory read as before, the CP/M
ambient state, the status and the parameters. -/
structure Frame (changed : List Loc) (stored : List Word) (s t : State) : Prop where
  regs : ∀ l, l ∉ changed → t.loc l = s.loc l
  bytes : ∀ a, a ∉ stored → t.peek a = s.peek a
  ambient : t.amb = s.amb
  status : t.status = s.status
  params : t.cfg = s.cfg

/-- An instruction of format `fm` leaves `PC` at `target`, has advanced `R` by the M1 cycles of the format (R117) and ended
with `EI_DELAY = 0` (R116). -/
structure EndsAt (fm : Format) (target : Word) (s t : State) : Prop where
  pc : t.cpu.pc = target
  refresh : t.cpu.r = bumpR fm.m1 s.cpu.r
  eiDelay : t.cpu.eiDelay = false

/-- The instruction `i` completes in `s`: `exec` answers a next state, and `P` holds of it. -/
def Completes (i : Instr) (s : State) (P : State → Prop) : Prop := ∃ t, exec i s = .next t ∧ P t

/-- `PCn`: the address after an instruction of format `fm` (R18). -/
def State.after (s : State) (fm : Format) : Word := s.cpu.pc + BitVec.ofNat 16 fm.length

/-- An instruction of format `fm` that does not write `PC` and calls no host: it ends at `PCn`, the host untouched. -/
def Finishes (fm : Format) (s t : State) : Prop := t.host = s.host ∧ EndsAt fm (s.after fm) s t

/-- The addresses of a two-byte access at `a` (R202). -/
def twoBytes (a : Word) : List Word := [a, a + 1]

/-- The places of a register pair. -/
def pairLocs : Pair → List Loc
  | .bc => [.reg .b, .reg .c]
  | .de => [.reg .d, .reg .e]
  | .hl => [.reg .h, .reg .l]
  | .sp => [.sp]

/-- The places of a register pair of PUSH and POP. -/
def pairAfLocs : PairAf → List Loc
  | .bc => [.reg .b, .reg .c]
  | .de => [.reg .d, .reg .e]
  | .hl => [.reg .h, .reg .l]
  | .af => [.reg .a, .f]

/-- The place of an index register. -/
def xyLoc : XY → Loc
  | .ix => .ix
  | .iy => .iy

/-- The place of a register or the index register of an index half. -/
def regXLoc (x : XY) : RegX → Loc
  | .b => .reg .b
  | .c => .reg .c
  | .d => .reg .d
  | .e => .reg .e
  | .hi => xyLoc x
  | .lo => xyLoc x
  | .a => .reg .a

/-- A byte read as a two's-complement number. -/
def signed8 (v : Byte) : Int := v.toInt

/-- A number outside the two's-complement range of `w` bits. -/
def overflows (w : Nat) (v : Int) : Bool := decide (v < -(2 ^ (w - 1) : Int)) || decide (v ≥ (2 ^ (w - 1) : Int))

/-- S, Z, Y and X of `t` are bit 7, zero, bit 5 and bit 3 of the byte `v` (R16). -/
def SZYX (v : Byte) (f : Flags) : Prop :=
  f.s = decide (128 ≤ v.toNat) ∧ f.z = decide (v.toNat = 0) ∧ f.y = v.getLsbD 5 ∧ f.x = v.getLsbD 3

/-- The number of 1 bits of a byte. -/
def ones (v : Byte) : Nat := ((List.range 8).filter (fun k => v.getLsbD k)).length

/-! ## Operand forms, for claims about all of them -/

/-- One form of an instruction: the instruction, its format, and its operand's value. -/
structure Form where
  instr : Instr
  fm : Format
  value : Byte
deriving DecidableEq, Repr

/-- The constructors of an 8-bit ALU operation, in the forms of R603. -/
structure AluRows where
  r : Reg8 → Instr
  n : Byte → Instr
  hl : Instr
  ixd : Byte → Instr
  iyd : Byte → Instr
  ixh : Half → Instr
  iyh : Half → Instr

/-- Every form of an 8-bit ALU operation with its operand (R603). -/
def AluRows.forms (k : AluRows) (s : State) (r : Reg8) (n d : Byte) (h : Half) : List Form :=
  [⟨k.r r, .u1, s.reg r⟩, ⟨k.n n, .u2n, n⟩, ⟨k.hl, .u1, s.peek s.hl⟩,
   ⟨k.ixd d, .xy3d, s.peek (s.ea .ix d)⟩, ⟨k.iyd d, .xy3d, s.peek (s.ea .iy d)⟩,
   ⟨k.ixh h, .xy2, s.half .ix h⟩, ⟨k.iyh h, .xy2, s.half .iy h⟩]

def addRows : AluRows := ⟨.addR, .addN, .addHl, .addIxd, .addIyd, .addIxh, .addIyh⟩
def adcRows : AluRows := ⟨.adcR, .adcN, .adcHl, .adcIxd, .adcIyd, .adcIxh, .adcIyh⟩
def subRows : AluRows := ⟨.subR, .subN, .subHl, .subIxd, .subIyd, .subIxh, .subIyh⟩
def sbcRows : AluRows := ⟨.sbcR, .sbcN, .sbcHl, .sbcIxd, .sbcIyd, .sbcIxh, .sbcIyh⟩
def andRows : AluRows := ⟨.andR, .andN, .andHl, .andIxd, .andIyd, .andIxh, .andIyh⟩
def xorRows : AluRows := ⟨.xorR, .xorN, .xorHl, .xorIxd, .xorIyd, .xorIxh, .xorIyh⟩
def orRows : AluRows := ⟨.orR, .orN, .orHl, .orIxd, .orIyd, .orIxh, .orIyh⟩
def cpRows : AluRows := ⟨.cpR, .cpN, .cpHl, .cpIxd, .cpIyd, .cpIxh, .cpIyh⟩

/-! ## Traps -/

/-- The machine is running at address `pc`, with no interrupt to accept and not halted: the trap comparator decides (R1311). -/
structure AtTrap (pc : Word) (s : State) : Prop where
  running : s.status = .running
  noNmi : s.nmiPending = false
  noInt : s.intRequest = none
  awake : s.cpu.halt = false
  here : s.cpu.pc = pc

/-- A serviced trap from `s` has ended in `t`: `PC` is the word popped from the stack as the function left it, `SP` is two
above, `EI_DELAY = 0`, `R` has not advanced (R1313, R1314, R117), and no register but `changed`, no byte but at `stored`, has
changed. -/
structure TrapEnds (changed : List Loc) (stored : List Word) (s t : State) : Prop where
  regs : ∀ l, l ∉ Loc.sp :: changed → t.loc l = s.loc l
  bytes : ∀ a, a ∉ stored → t.peek a = s.peek a
  pc : t.cpu.pc = cat (t.peek (s.cpu.sp + 1)) (t.peek s.cpu.sp)
  sp : t.cpu.sp = s.cpu.sp + 2
  refresh : t.cpu.r = s.cpu.r
  eiDelay : t.cpu.eiDelay = false
  running : t.status = .running
  params : t.cfg = s.cfg

/-- `Result8(v)` (R1320): `A` and `L` hold `v`. -/
def Answers (v : Byte) (t : State) : Prop := t.cpu.a = v ∧ t.cpu.l = v

/-- The ambient state with the search iterator gone (R1313). -/
def noSearch (a : Ambient) : Ambient := { a with search := none }

/-! ## Rotates and shifts as numbers -/

/-- The result of a CB-group operation on a byte read as a number, `c` the carry before it: a left move doubles modulo 256, a
right move halves, and the bit that comes in is the operation's own (R905). -/
def rotated (o : RotOp) (c : Bool) (v : Nat) : Nat :=
  match o with
  | .rlc => (2 * v) % 256 + v / 128
  | .rrc => v / 2 + 128 * (v % 2)
  | .rl => (2 * v) % 256 + c.toNat
  | .rr => v / 2 + 128 * c.toNat
  | .sla => (2 * v) % 256
  | .sra => v / 2 + 128 * (v / 128)
  | .sll => (2 * v) % 256 + 1
  | .srl => v / 2

/-- The bit an operation shifts out: bit 7 of a left move, bit 0 of a right move (R905). -/
def shiftedOut (o : RotOp) (v : Nat) : Bool :=
  match o with
  | .rlc => decide (128 ≤ v)
  | .rl => decide (128 ≤ v)
  | .sla => decide (128 ≤ v)
  | .sll => decide (128 ≤ v)
  | .rrc => decide (v % 2 = 1)
  | .rr => decide (v % 2 = 1)
  | .sra => decide (v % 2 = 1)
  | .srl => decide (v % 2 = 1)

/-- The constructors of a CB-group operation in the forms of R906. -/
structure RotRows where
  o : RotOp
  r : Reg8 → Instr
  hl : Instr
  ixd : Byte → Instr
  iyd : Byte → Instr

/-- The eight CB-group operations (R307). -/
def rotRows : List RotRows :=
  [⟨.rlc, .rlcR, .rlcHl, .rlcIxd, .rlcIyd⟩, ⟨.rrc, .rrcR, .rrcHl, .rrcIxd, .rrcIyd⟩,
   ⟨.rl, .rlR, .rlHl, .rlIxd, .rlIyd⟩, ⟨.rr, .rrR, .rrHl, .rrIxd, .rrIyd⟩,
   ⟨.sla, .slaR, .slaHl, .slaIxd, .slaIyd⟩, ⟨.sra, .sraR, .sraHl, .sraIxd, .sraIyd⟩,
   ⟨.sll, .sllR, .sllHl, .sllIxd, .sllIyd⟩, ⟨.srl, .srlR, .srlHl, .srlIxd, .srlIyd⟩]

/-! ## Encodings with no row (R311) -/

/-- The ED opcode bytes with no row, as R311 lists them. -/
def undefinedED (b : Byte) : Bool :=
  let n := b.toNat
  decide (n ≤ 0x3F) || (decide (0x80 ≤ n) && decide (n ≤ 0x9F)) || (decide (0xA4 ≤ n) && decide (n ≤ 0xA7)) ||
  (decide (0xAC ≤ n) && decide (n ≤ 0xAF)) || (decide (0xB4 ≤ n) && decide (n ≤ 0xB7)) || decide (0xBC ≤ n) ||
  [0x4C, 0x4E, 0x54, 0x55, 0x5C, 0x5D, 0x64, 0x65, 0x66, 0x6C, 0x6D, 0x6E, 0x70, 0x71, 0x74, 0x75, 0x76, 0x77,
   0x7C, 0x7D, 0x7E, 0x7F].contains n

/-- The 85 opcode bytes of the DD and FD grid that are instructions (R317). -/
def definedXY (b : Byte) : Bool :=
  ([0x09, 0x19, 0x21, 0x22, 0x23, 0x24, 0x25, 0x26, 0x29, 0x2A, 0x2B, 0x2C, 0x2D, 0x2E, 0x34, 0x35, 0x36, 0x39] ++
   [0x44, 0x45, 0x46, 0x4C, 0x4D, 0x4E, 0x54, 0x55, 0x56, 0x5C, 0x5D, 0x5E] ++
   [0x60, 0x61, 0x62, 0x63, 0x64, 0x65, 0x66, 0x67, 0x68, 0x69, 0x6A, 0x6B, 0x6C, 0x6D, 0x6E, 0x6F] ++
   [0x70, 0x71, 0x72, 0x73, 0x74, 0x75, 0x77, 0x7C, 0x7D, 0x7E] ++
   [0x84, 0x85, 0x86, 0x8C, 0x8D, 0x8E, 0x94, 0x95, 0x96, 0x9C, 0x9D, 0x9E] ++
   [0xA4, 0xA5, 0xA6, 0xAC, 0xAD, 0xAE, 0xB4, 0xB5, 0xB6, 0xBC, 0xBD, 0xBE] ++
   [0xE1, 0xE3, 0xE5, 0xE9, 0xF9]).contains b.toNat

/-- The bytes begin an encoding R311 lists as unsupported. -/
def unsupportedBytes (b0 b1 b3 : Byte) : Bool :=
  (b0 == 0xED#8 && undefinedED b1) ||
  ((b0 == 0xDD#8 || b0 == 0xFD#8) && (if b1 = 0xCB#8 then b3.toNat % 8 != 6 else !definedXY b1))

/-! ## Stopped machines -/

/-- From `s` a step has faulted with `f` into `t`: `STATUS` is `Faulted f` and every other component of the core is as in `s`
(R1501). -/
def FaultsWith (f : Fault) (s t : State) : Prop :=
  t.status = .faulted f ∧ t.cpu = s.cpu ∧ t.mem = s.mem ∧ t.amb = s.amb ∧ t.cfg = s.cfg

/-! ## The invariant -/

/-- Handle numbers strictly rising, from `lo` on, none above `hi`. -/
def handlesRising (lo hi : Nat) : List (Nat × HandleRec) → Bool
  | [] => true
  | (k, _) :: hs => decide (lo ≤ k) && decide (k ≤ hi) && handlesRising (k + 1) hi hs

/-- `HANDLES` is a partial map from `1..MAX_OPEN_FILES` (R124). -/
def handlesWf (s : State) : Bool := handlesRising 1 s.cfg.maxOpenFiles s.amb.handles

/-- The filter and every remaining name of `SEARCH` are 11 bytes (R123). -/
def searchWf : Option Search → Bool
  | none => true
  | some it => it.filter.length == 11 && it.remaining.all (fun c => c.length == 11)

/-- The file object of every handle is open at the host, no two handles share one, and the host has given out no `fid` it
will give again. -/
def handlesOpen (s : State) : Prop :=
  (∀ p ∈ s.amb.handles, ∃ o ∈ s.host.opened, o.fid = p.2.fid) ∧
  (∀ p ∈ s.amb.handles, ∀ q ∈ s.amb.handles, p.2.fid = q.2.fid → p.1 = q.1) ∧
  (∀ o ∈ s.host.opened, o.fid < s.host.nextFid)

/-- The invariant of the machine: memory in its canonical form, `HANDLES` a partial map on `1..MAX_OPEN_FILES`, the names of
`SEARCH` 11 bytes long. -/
structure State.Inv (s : State) : Prop where
  memory : s.mem.wf = true
  handles : handlesWf s = true
  search : searchWf s.amb.search = true

end Sys2Proof.Machine
end

