-- ==== Sys2Proof/Certificates/Slice0/Obligations.lean ====
section
/-! DEFINITION. The statements for the provers. -/

open Sys2Proof Sys2Proof.Machine

/-! ## Loads (40_load.md) -/

/-- R401 to R404, R409 to R411: every load of an 8-bit register puts the source in that register and changes nothing else. -/
def Obligations.ByteLoadsReachTheirRegister : Prop :=
  ∀ (s : State) (r r' : Reg8) (n d : Byte) (nn : Word),
    ∀ p ∈ [(Instr.ldRR r r', Format.u1, r, s.reg r'), (.ldRN r n, .u2n, r, n), (.ldRHl r, .u1, r, s.peek s.hl),
           (.ldRIxd r d, .xy3d, r, s.peek (s.ea .ix d)), (.ldRIyd r d, .xy3d, r, s.peek (s.ea .iy d)),
           (.ldABc, .u1, .a, s.peek s.bc), (.ldADe, .u1, .a, s.peek s.de), (.ldANn nn, .u3nn, .a, s.peek nn)],
      Completes p.1 s fun t =>
        t.reg p.2.2.1 = p.2.2.2 ∧ Frame [.reg p.2.2.1] [] s t ∧ Finishes p.2.1 s t

/-- R405 to R408, R412 to R414: every 8-bit store writes its byte at its address and changes nothing else. -/
def Obligations.ByteStoresWriteOneByte : Prop :=
  ∀ (s : State) (r : Reg8) (n d : Byte) (nn : Word), s.mem.wf = true →
    ∀ p ∈ [(Instr.ldHlR r, Format.u1, s.hl, s.reg r), (.ldHlN n, .u2n, s.hl, n),
           (.ldIxdR d r, .xy3d, s.ea .ix d, s.reg r), (.ldIydR d r, .xy3d, s.ea .iy d, s.reg r),
           (.ldIxdN d n, .xy4dn, s.ea .ix d, n), (.ldIydN d n, .xy4dn, s.ea .iy d, n),
           (.ldBcA, .u1, s.bc, s.cpu.a), (.ldDeA, .u1, s.de, s.cpu.a), (.ldNnA nn, .u3nn, nn, s.cpu.a)],
      Completes p.1 s fun t =>
        t.peek p.2.2.1 = p.2.2.2 ∧ Frame [] [p.2.2.1] s t ∧ Finishes p.2.1 s t

/-- R415 to R418: the transfers of I and R, the P/V of the reads being IFF2, and R read after its advance by 2. -/
def Obligations.InterruptRegisterTransfers : Prop :=
  ∀ s : State,
    (∀ p ∈ [(Instr.ldAI, s.cpu.i), (.ldARefresh, bumpR 2 s.cpu.r)],
      Completes p.1 s fun t =>
        t.cpu.a = p.2 ∧ SZYX p.2 t.flags ∧ t.flags.h = false ∧ t.flags.pv = s.cpu.iff2 ∧ t.flags.n = false ∧
        t.flags.c = s.flags.c ∧ Frame [.reg .a, .f] [] s t ∧ Finishes .ed2 s t) ∧
    (Completes .ldIA s fun t => t.cpu.i = s.cpu.a ∧ Frame [.i] [] s t ∧ Finishes .ed2 s t) ∧
    (Completes .ldRefreshA s fun t =>
      t.cpu.r = s.cpu.a ∧ t.cpu.pc = s.after .ed2 ∧ t.cpu.eiDelay = false ∧ t.host = s.host ∧ Frame [] [] s t)

/-- R419, R420: the loads between registers and index halves, and of an index half with an immediate; the other half keeps its
value. -/
def Obligations.IndexHalfLoads : Prop :=
  ∀ (s : State) (r r' : RegX) (h : Half) (n : Byte),
    (∀ p ∈ [(Instr.ldIxHalves r r', XY.ix), (.ldIyHalves r r', .iy)],
      Completes p.1 s fun t =>
        t.regX p.2 r = s.regX p.2 r' ∧ (∀ q, q ≠ r → t.regX p.2 q = s.regX p.2 q) ∧
        Frame [regXLoc p.2 r] [] s t ∧ Finishes .xy2 s t) ∧
    (∀ p ∈ [(Instr.ldIxhN h n, XY.ix), (.ldIyhN h n, .iy)],
      Completes p.1 s fun t =>
        t.half p.2 h = n ∧ (∀ k, k ≠ h → t.half p.2 k = s.half p.2 k) ∧
        Frame [xyLoc p.2] [] s t ∧ Finishes .xy3n s t)

/-- R430 to R434, R438, R439: every load of a pair, an index register or SP puts its word there and changes nothing else. -/
def Obligations.WordLoadsReachTheirPair : Prop :=
  ∀ (s : State) (p : Pair) (nn : Word),
    (∀ q ∈ [(Instr.ldDdNn p nn, Format.u3nn, p, nn), (.ldHlMem nn, .u3nn, .hl, s.peek16 nn),
            (.ldDdMem p nn, .ed4nn, p, s.peek16 nn), (.ldSpHl, .u1, .sp, s.hl),
            (.ldSpIx, .xy2, .sp, s.cpu.ix), (.ldSpIy, .xy2, .sp, s.cpu.iy)],
      Completes q.1 s fun t =>
        t.pair q.2.2.1 = q.2.2.2 ∧ Frame (pairLocs q.2.2.1) [] s t ∧ Finishes q.2.1 s t) ∧
    (∀ q ∈ [(Instr.ldIxNn nn, XY.ix, nn), (.ldIyNn nn, .iy, nn),
            (.ldIxMem nn, .ix, s.peek16 nn), (.ldIyMem nn, .iy, s.peek16 nn)],
      Completes q.1 s fun t =>
        t.xy q.2.1 = q.2.2 ∧ Frame [xyLoc q.2.1] [] s t ∧ Finishes .xy4nn s t)

/-- R435 to R437: every 16-bit store writes the low byte at nn, the high byte at nn + 1 modulo 65536, and nothing else. -/
def Obligations.WordStoresWriteTwoBytes : Prop :=
  ∀ (s : State) (p : Pair) (nn : Word), s.mem.wf = true →
    ∀ q ∈ [(Instr.ldMemHl nn, Format.u3nn, s.hl), (.ldMemDd nn p, .ed4nn, s.pair p),
           (.ldMemIx nn, .xy4nn, s.cpu.ix), (.ldMemIy nn, .xy4nn, s.cpu.iy)],
      Completes q.1 s fun t =>
        (t.peek nn).toNat = q.2.2.toNat % 256 ∧ (t.peek (nn + 1)).toNat = q.2.2.toNat / 256 ∧
        Frame [] (twoBytes nn) s t ∧ Finishes q.2.1 s t

/-- R440, R441, R15: PUSH writes the high byte below SP, the low byte below that, and moves SP down by two. -/
def Obligations.PushWritesTheStack : Prop :=
  ∀ (s : State) (p : PairAf), s.mem.wf = true →
    ∀ q ∈ [(Instr.pushQq p, Format.u1, s.pairAf p), (.pushIx, .xy2, s.cpu.ix), (.pushIy, .xy2, s.cpu.iy)],
      Completes q.1 s fun t =>
        t.cpu.sp = s.cpu.sp - 2 ∧ (t.peek (s.cpu.sp - 1)).toNat = q.2.2.toNat / 256 ∧
        (t.peek (s.cpu.sp - 2)).toNat = q.2.2.toNat % 256 ∧
        Frame [.sp] [s.cpu.sp - 1, s.cpu.sp - 2] s t ∧ Finishes q.2.1 s t

/-- R442, R443, R15: POP takes the low byte at SP and the high byte above it, and moves SP up by two. -/
def Obligations.PopReadsTheStack : Prop :=
  ∀ (s : State) (p : PairAf),
    (Completes (.popQq p) s fun t =>
      (t.pairAf p).toNat = (s.peek s.cpu.sp).toNat + 256 * (s.peek (s.cpu.sp + 1)).toNat ∧ t.cpu.sp = s.cpu.sp + 2 ∧
      Frame (.sp :: pairAfLocs p) [] s t ∧ Finishes .u1 s t) ∧
    (∀ q ∈ [(Instr.popIx, XY.ix), (.popIy, .iy)],
      Completes q.1 s fun t =>
        (t.xy q.2).toNat = (s.peek s.cpu.sp).toNat + 256 * (s.peek (s.cpu.sp + 1)).toNat ∧ t.cpu.sp = s.cpu.sp + 2 ∧
        Frame [.sp, xyLoc q.2] [] s t ∧ Finishes .xy2 s t)

/-! ## Exchanges and block instructions (41_exchange_block.md) -/

/-- R500 to R502: the register exchanges; each is its own inverse on the registers. -/
def Obligations.RegisterExchanges : Prop :=
  ∀ s : State,
    (Completes .exDeHl s fun t =>
      t.de = s.hl ∧ t.hl = s.de ∧ Frame [.reg .d, .reg .e, .reg .h, .reg .l] [] s t ∧ Finishes .u1 s t) ∧
    (Completes .exAfAf s fun t =>
      t.cpu.a = s.cpu.alt.a ∧ t.cpu.f = s.cpu.alt.f ∧ t.cpu.alt.a = s.cpu.a ∧ t.cpu.alt.f = s.cpu.f ∧
      Frame [.reg .a, .f, .altA, .altF] [] s t ∧ Finishes .u1 s t) ∧
    (Completes .exx s fun t =>
      t.bc = cat s.cpu.alt.b s.cpu.alt.c ∧ t.de = cat s.cpu.alt.d s.cpu.alt.e ∧ t.hl = cat s.cpu.alt.h s.cpu.alt.l ∧
      cat t.cpu.alt.b t.cpu.alt.c = s.bc ∧ cat t.cpu.alt.d t.cpu.alt.e = s.de ∧ cat t.cpu.alt.h t.cpu.alt.l = s.hl ∧
      Frame [.reg .b, .reg .c, .reg .d, .reg .e, .reg .h, .reg .l, .altB, .altC, .altD, .altE, .altH, .altL] [] s t ∧
      Finishes .u1 s t) ∧
    (∀ i ∈ [Instr.exDeHl, .exAfAf, .exx],
      Completes i s fun u => Completes i u fun t => Frame [] [] s t ∧ t.cpu.pc = s.cpu.pc + 2)

/-- R503, R504: the exchanges with the top of the stack read both bytes before writing either; SP is unchanged. -/
def Obligations.StackTopExchanges : Prop :=
  ∀ s : State, s.mem.wf = true →
    (Completes .exSpHl s fun t =>
      t.hl = cat (s.peek (s.cpu.sp + 1)) (s.peek s.cpu.sp) ∧
      t.peek s.cpu.sp = s.cpu.l ∧ t.peek (s.cpu.sp + 1) = s.cpu.h ∧
      Frame [.reg .h, .reg .l] (twoBytes s.cpu.sp) s t ∧ Finishes .u1 s t) ∧
    (∀ q ∈ [(Instr.exSpIx, XY.ix), (.exSpIy, .iy)],
      Completes q.1 s fun t =>
        t.xy q.2 = cat (s.peek (s.cpu.sp + 1)) (s.peek s.cpu.sp) ∧
        t.peek s.cpu.sp = s.half q.2 .lo ∧ t.peek (s.cpu.sp + 1) = s.half q.2 .hi ∧
        Frame [xyLoc q.2] (twoBytes s.cpu.sp) s t ∧ Finishes .xy2 s t)

/-- R505 to R508, R520, R521, R523: one block transfer. A repeating form with `BC ≠ 1` before keeps PC, and its X and Y are a
draw; otherwise X and Y are bits 3 and 1 of `v + A`. -/
def Obligations.BlockTransfersMoveOneByte : Prop :=
  ∀ s : State, s.mem.wf = true →
    ∀ p ∈ [(Instr.ldi, (1 : Word), false), (.ldd, 0xFFFF, false), (.ldir, 1, true), (.lddr, 0xFFFF, true)],
      Completes p.1 s fun t =>
        let again := p.2.2 && decide (s.bc ≠ 1)
        let k := s.peek s.hl + s.cpu.a
        t.peek s.de = s.peek s.hl ∧ t.hl = s.hl + p.2.1 ∧ t.de = s.de + p.2.1 ∧ t.bc = s.bc - 1 ∧
        t.flags.s = s.flags.s ∧ t.flags.z = s.flags.z ∧ t.flags.c = s.flags.c ∧ t.flags.h = false ∧ t.flags.n = false ∧
        t.flags.pv = decide (s.bc ≠ 1) ∧
        (again = false → t.flags.x = k.getLsbD 3 ∧ t.flags.y = k.getLsbD 1 ∧ t.host = s.host) ∧
        (again = true → t.host = { s.host with draws := s.host.draws + 1 }) ∧
        Frame [.reg .b, .reg .c, .reg .d, .reg .e, .reg .h, .reg .l, .f] [s.de] s t ∧
        EndsAt .ed2 (if again then s.cpu.pc else s.after .ed2) s t

/-- R509 to R512, R520, R522, R523: one block search. Z tells whether the byte equals A; a repeating form with `BC ≠ 1` before
and no match keeps PC, and its X and Y are a draw. -/
def Obligations.BlockSearchesCompareOneByte : Prop :=
  ∀ s : State,
    ∀ p ∈ [(Instr.cpi, (1 : Word), false), (.cpd, 0xFFFF, false), (.cpir, 1, true), (.cpdr, 0xFFFF, true)],
      Completes p.1 s fun t =>
        let v := s.peek s.hl
        let again := p.2.2 && decide (s.bc ≠ 1) && decide (s.cpu.a ≠ v)
        let borrow := decide (s.cpu.a.toNat % 16 < v.toNat % 16)
        let k := s.cpu.a - v - (if borrow then 1 else 0)
        t.hl = s.hl + p.2.1 ∧ t.bc = s.bc - 1 ∧
        t.flags.s = (s.cpu.a - v).getLsbD 7 ∧ t.flags.z = decide (s.cpu.a = v) ∧ t.flags.h = borrow ∧
        t.flags.pv = decide (s.bc ≠ 1) ∧ t.flags.n = true ∧ t.flags.c = s.flags.c ∧
        (again = false → t.flags.x = k.getLsbD 3 ∧ t.flags.y = k.getLsbD 1 ∧ t.host = s.host) ∧
        (again = true → t.host = { s.host with draws := s.host.draws + 1 }) ∧
        Frame [.reg .b, .reg .c, .reg .h, .reg .l, .f] [] s t ∧
        EndsAt .ed2 (if again then s.cpu.pc else s.after .ed2) s t

/-! ## 8-bit arithmetic and logic (42_alu8.md) -/

/-- R600 with R603 and R16: ADD and ADC in every operand form, the flags as facts about the exact sum; P/V is two's-complement
overflow. -/
def Obligations.AdditionIsExact : Prop :=
  ∀ (s : State) (r : Reg8) (n d : Byte) (h : Half),
    ∀ p ∈ [(addRows, false), (adcRows, s.cpu.f.getLsbD 0)],
      ∀ x ∈ p.1.forms s r n d h,
        Completes x.instr s fun t =>
          let sum := s.cpu.a.toNat + x.value.toNat + p.2.toNat
          t.cpu.a.toNat = sum % 256 ∧ SZYX t.cpu.a t.flags ∧
          t.flags.h = decide (15 < s.cpu.a.toNat % 16 + x.value.toNat % 16 + p.2.toNat) ∧
          t.flags.pv = overflows 8 (signed8 s.cpu.a + signed8 x.value + p.2.toNat) ∧
          t.flags.n = false ∧ t.flags.c = decide (255 < sum) ∧
          Frame [.reg .a, .f] [] s t ∧ Finishes x.fm s t

/-- R601 with R603 and R16: SUB and SBC in every operand form, the flags as facts about the exact difference. -/
def Obligations.SubtractionIsExact : Prop :=
  ∀ (s : State) (r : Reg8) (n d : Byte) (h : Half),
    ∀ p ∈ [(subRows, false), (sbcRows, s.cpu.f.getLsbD 0)],
      ∀ x ∈ p.1.forms s r n d h,
        Completes x.instr s fun t =>
          let diff : Int := (s.cpu.a.toNat : Int) - x.value.toNat - p.2.toNat
          (t.cpu.a.toNat : Int) = diff % 256 ∧ SZYX t.cpu.a t.flags ∧
          t.flags.h = decide (s.cpu.a.toNat % 16 < x.value.toNat % 16 + p.2.toNat) ∧
          t.flags.pv = overflows 8 (signed8 s.cpu.a - signed8 x.value - p.2.toNat) ∧
          t.flags.n = true ∧ t.flags.c = decide (diff < 0) ∧
          Frame [.reg .a, .f] [] s t ∧ Finishes x.fm s t

/-- R606 with R603: CP in every operand form has the flags of the subtraction, X and Y of the operand, and leaves A. -/
def Obligations.CompareKeepsAccumulator : Prop :=
  ∀ (s : State) (r : Reg8) (n d : Byte) (h : Half),
    ∀ x ∈ cpRows.forms s r n d h,
      Completes x.instr s fun t =>
        t.flags.s = (s.cpu.a - x.value).getLsbD 7 ∧ t.flags.z = decide (s.cpu.a = x.value) ∧
        t.flags.y = x.value.getLsbD 5 ∧ t.flags.x = x.value.getLsbD 3 ∧
        t.flags.h = decide (s.cpu.a.toNat % 16 < x.value.toNat % 16) ∧
        t.flags.pv = overflows 8 (signed8 s.cpu.a - signed8 x.value) ∧ t.flags.n = true ∧
        t.flags.c = decide (s.cpu.a.toNat < x.value.toNat) ∧
        Frame [.f] [] s t ∧ Finishes x.fm s t

/-- R602 with R603: AND, XOR and OR in every operand form, bit by bit; P/V is even parity, H is 1 for AND alone. -/
def Obligations.LogicIsBitwise : Prop :=
  ∀ (s : State) (r : Reg8) (n d : Byte) (h : Half),
    ∀ p ∈ [(andRows, (fun a b : Bool => a && b), true), (xorRows, (fun a b => a ^^ b), false),
           (orRows, (fun a b => a || b), false)],
      ∀ x ∈ p.1.forms s r n d h,
        Completes x.instr s fun t =>
          (∀ k, k < 8 → t.cpu.a.getLsbD k = p.2.1 (s.cpu.a.getLsbD k) (x.value.getLsbD k)) ∧ SZYX t.cpu.a t.flags ∧
          t.flags.h = p.2.2 ∧ t.flags.pv = decide (ones t.cpu.a % 2 = 0) ∧ t.flags.n = false ∧ t.flags.c = false ∧
          Frame [.reg .a, .f] [] s t ∧ Finishes x.fm s t

/-- R604, R605 with R650 to R657: INC and DEC of a register, a byte of memory or an index half: the result, C kept, P/V set
for the result 0x80 (INC) or 0x7F (DEC), H the carry out of or the borrow into the low digit. -/
def Obligations.IncrementAndDecrement : Prop :=
  ∀ (s : State) (r : Reg8) (d : Byte) (h : Half), s.mem.wf = true →
    ∀ p ∈ [(Instr.incR r, Instr.incHl, Instr.incIxd d, Instr.incIyd d, Instr.incIxh h, Instr.incIyh h,
            (1 : Byte), (0x80 : Byte), (15 : Nat), false),
           (.decR r, .decHl, .decIxd d, .decIyd d, .decIxh h, .decIyh h, 0xFF, 0x7F, 0, true)],
      let (iR, iHl, iIx, iIy, iIxh, iIyh, delta, edge, digit, sub) := p
      let flagsOf (v : Byte) (t : State) : Prop :=
        SZYX (v + delta) t.flags ∧ t.flags.h = decide (v.toNat % 16 = digit) ∧ t.flags.pv = decide (v + delta = edge) ∧
        t.flags.n = sub ∧ t.flags.c = s.flags.c
      (Completes iR s fun t =>
        t.reg r = s.reg r + delta ∧ flagsOf (s.reg r) t ∧ Frame [.reg r, .f] [] s t ∧ Finishes .u1 s t) ∧
      (∀ m ∈ [(iHl, Format.u1, s.hl), (iIx, .xy3d, s.ea .ix d), (iIy, .xy3d, s.ea .iy d)],
        Completes m.1 s fun t =>
          t.peek m.2.2 = s.peek m.2.2 + delta ∧ flagsOf (s.peek m.2.2) t ∧
          Frame [.f] [m.2.2] s t ∧ Finishes m.2.1 s t) ∧
      (∀ m ∈ [(iIxh, XY.ix), (iIyh, .iy)],
        Completes m.1 s fun t =>
          t.half m.2 h = s.half m.2 h + delta ∧ flagsOf (s.half m.2 h) t ∧
          (∀ k, k ≠ h → t.half m.2 k = s.half m.2 k) ∧
          Frame [xyLoc m.2, .f] [] s t ∧ Finishes .xy2 s t)

/-! ## Accumulator, flag and CPU control (43_general_cpu_control.md) -/

/-- R700 to R704: DAA, CPL, NEG, CCF and SCF. -/
def Obligations.AccumulatorAndFlagOperations : Prop :=
  ∀ s : State,
    (Completes .daa s fun t =>
      let low := s.flags.h || decide (9 < s.cpu.a.toNat % 16)
      let high := s.flags.c || decide (0x99 < s.cpu.a.toNat)
      let corr : Int := (if low then 0x06 else 0) + (if high then 0x60 else 0)
      (t.cpu.a.toNat : Int) = (if s.flags.n then s.cpu.a.toNat - corr else s.cpu.a.toNat + corr) % 256 ∧
      SZYX t.cpu.a t.flags ∧
      t.flags.h = (if s.flags.n then s.flags.h && decide (s.cpu.a.toNat % 16 < 6) else decide (9 < s.cpu.a.toNat % 16)) ∧
      t.flags.pv = decide (ones t.cpu.a % 2 = 0) ∧ t.flags.n = s.flags.n ∧ t.flags.c = high ∧
      Frame [.reg .a, .f] [] s t ∧ Finishes .u1 s t) ∧
    (Completes .cpl s fun t =>
      t.cpu.a.toNat = 255 - s.cpu.a.toNat ∧
      t.flags = { s.flags with h := true, n := true, y := t.cpu.a.getLsbD 5, x := t.cpu.a.getLsbD 3 } ∧
      Frame [.reg .a, .f] [] s t ∧ Finishes .u1 s t) ∧
    (Completes .neg s fun t =>
      t.cpu.a.toNat = (256 - s.cpu.a.toNat) % 256 ∧ SZYX t.cpu.a t.flags ∧
      t.flags.h = decide (s.cpu.a.toNat % 16 ≠ 0) ∧ t.flags.pv = decide (s.cpu.a = 0x80) ∧ t.flags.n = true ∧
      t.flags.c = decide (s.cpu.a ≠ 0) ∧ Frame [.reg .a, .f] [] s t ∧ Finishes .ed2 s t) ∧
    (Completes .ccf s fun t =>
      t.flags = { s.flags with h := s.flags.c, c := !s.flags.c, n := false,
                               y := s.cpu.a.getLsbD 5, x := s.cpu.a.getLsbD 3 } ∧
      Frame [.f] [] s t ∧ Finishes .u1 s t) ∧
    (Completes .scf s fun t =>
      t.flags = { s.flags with c := true, h := false, n := false,
                               y := s.cpu.a.getLsbD 5, x := s.cpu.a.getLsbD 3 } ∧
      Frame [.f] [] s t ∧ Finishes .u1 s t)

/-- R700: after an ADD of two packed decimal bytes DAA leaves their decimal sum, C its hundreds; after a SUB the decimal
difference, C its borrow. -/
def Obligations.DaaCorrectsDecimal : Prop :=
  ∀ (s : State) (v : Byte),
    let bcd (b : Byte) : Prop := b.toNat % 16 ≤ 9 ∧ b.toNat / 16 ≤ 9
    let number (b : Byte) : Nat := 10 * (b.toNat / 16) + b.toNat % 16
    bcd s.cpu.a → bcd v →
      (Completes (.addN v) s fun u => Completes .daa u fun t =>
        bcd t.cpu.a ∧ number t.cpu.a + 100 * t.flags.c.toNat = number s.cpu.a + number v) ∧
      (Completes (.subN v) s fun u => Completes .daa u fun t =>
        bcd t.cpu.a ∧ number t.cpu.a + number v = number s.cpu.a + 100 * t.flags.c.toNat)

/-- R705, R707 to R711: NOP, DI, EI and IM change the latches they name and nothing else; EI leaves EI_DELAY set. -/
def Obligations.CpuControl : Prop :=
  ∀ s : State,
    (Completes .nop s fun t => Frame [] [] s t ∧ Finishes .u1 s t) ∧
    (Completes .di s fun t =>
      t.cpu.iff1 = false ∧ t.cpu.iff2 = false ∧ Frame [.iff1, .iff2] [] s t ∧ Finishes .u1 s t) ∧
    (Completes .ei s fun t =>
      t.cpu.iff1 = true ∧ t.cpu.iff2 = true ∧ t.cpu.eiDelay = true ∧ t.cpu.pc = s.after .u1 ∧
      t.cpu.r = bumpR 1 s.cpu.r ∧ t.host = s.host ∧ Frame [.iff1, .iff2] [] s t) ∧
    (∀ p ∈ [(Instr.im0, IntMode.im0), (.im1, .im1), (.im2, .im2)],
      Completes p.1 s fun t => t.cpu.im = p.2 ∧ Frame [.im] [] s t ∧ Finishes .ed2 s t)

/-- R706: HALT with IFF1 = 1 sets the latch and passes itself; with IFF1 = 0 it is the fault, and nothing else changes.
R1507: a halted machine with no interrupt to accept advances R by one, clears EI_DELAY and does nothing else, whatever PC
is. -/
def Obligations.HaltStopsOrIdles : Prop :=
  ∀ s : State,
    (s.cpu.iff1 = true → Completes .halt s fun t => t.cpu.halt = true ∧ Frame [.halt] [] s t ∧ Finishes .u1 s t) ∧
    (s.cpu.iff1 = false → Completes .halt s fun t =>
      FaultsWith (.haltWithInterruptsDisabled s.cpu.pc
        [s.peek s.cpu.pc, s.peek (s.cpu.pc + 1), s.peek (s.cpu.pc + 2), s.peek (s.cpu.pc + 3)]) s t ∧ t.host = s.host) ∧
    (s.status = .running → s.cpu.halt = true → s.nmiPending = false → s.intRequest = none →
      ∃ t, step s = .next t ∧ t.host = s.host ∧ t.cpu.r = bumpR 1 s.cpu.r ∧ t.cpu.eiDelay = false ∧
        t.cpu.pc = s.cpu.pc ∧ Frame [] [] s t)

/-! ## 16-bit arithmetic (44_alu16.md) -/

/-- R800, R803, R820: the 16-bit additions: the exact sum, C the carry out of bit 15, H out of bit 11, S, Z and P/V kept. -/
def Obligations.WordAddition : Prop :=
  ∀ (s : State) (p : Pair) (q : PairX),
    let flagsOf (a b : Word) (t : State) : Prop :=
      t.flags = { s.flags with
        h := decide (4096 ≤ a.toNat % 4096 + b.toNat % 4096), c := decide (65536 ≤ a.toNat + b.toNat), n := false,
        y := (a + b).getLsbD 13, x := (a + b).getLsbD 11 }
    (Completes (.addHlSs p) s fun t =>
      t.hl.toNat = (s.hl.toNat + (s.pair p).toNat) % 65536 ∧ flagsOf s.hl (s.pair p) t ∧
      Frame [.reg .h, .reg .l, .f] [] s t ∧ Finishes .u1 s t) ∧
    (∀ m ∈ [(Instr.addIxPp q, XY.ix), (.addIyPp q, .iy)],
      Completes m.1 s fun t =>
        (t.xy m.2).toNat = ((s.xy m.2).toNat + (s.pairX m.2 q).toNat) % 65536 ∧
        flagsOf (s.xy m.2) (s.pairX m.2 q) t ∧ Frame [xyLoc m.2, .f] [] s t ∧ Finishes .xy2 s t)

/-- R801, R802, R821: ADC HL and SBC HL: the exact result, Z over all 16 bits, P/V two's-complement overflow. -/
def Obligations.WordAdditionWithCarry : Prop :=
  ∀ (s : State) (p : Pair),
    let a := s.hl
    let b := s.pair p
    let c := s.flags.c.toNat
    (Completes (.adcHlSs p) s fun t =>
      t.hl.toNat = (a.toNat + b.toNat + c) % 65536 ∧
      t.flags.s = decide (32768 ≤ t.hl.toNat) ∧ t.flags.z = decide (t.hl = 0) ∧
      t.flags.y = t.hl.getLsbD 13 ∧ t.flags.x = t.hl.getLsbD 11 ∧
      t.flags.h = decide (4096 ≤ a.toNat % 4096 + b.toNat % 4096 + c) ∧
      t.flags.pv = overflows 16 (a.toInt + b.toInt + c) ∧ t.flags.n = false ∧
      t.flags.c = decide (65536 ≤ a.toNat + b.toNat + c) ∧
      Frame [.reg .h, .reg .l, .f] [] s t ∧ Finishes .ed2 s t) ∧
    (Completes (.sbcHlSs p) s fun t =>
      (t.hl.toNat : Int) = ((a.toNat : Int) - b.toNat - c) % 65536 ∧
      t.flags.s = decide (32768 ≤ t.hl.toNat) ∧ t.flags.z = decide (t.hl = 0) ∧
      t.flags.y = t.hl.getLsbD 13 ∧ t.flags.x = t.hl.getLsbD 11 ∧
      t.flags.h = decide (a.toNat % 4096 < b.toNat % 4096 + c) ∧
      t.flags.pv = overflows 16 (a.toInt - b.toInt - c) ∧ t.flags.n = true ∧
      t.flags.c = decide (a.toNat < b.toNat + c) ∧
      Frame [.reg .h, .reg .l, .f] [] s t ∧ Finishes .ed2 s t)

/-- R804 to R807: INC and DEC of a pair or index register step it modulo 65536 and write no flag. -/
def Obligations.WordIncrementKeepsFlags : Prop :=
  ∀ (s : State) (p : Pair),
    (∀ m ∈ [(Instr.incSs p, (1 : Int)), (.decSs p, -1)],
      Completes m.1 s fun t =>
        ((t.pair p).toNat : Int) = ((s.pair p).toNat + m.2) % 65536 ∧ Frame (pairLocs p) [] s t ∧ Finishes .u1 s t) ∧
    (∀ m ∈ [(Instr.incIx, XY.ix, (1 : Int)), (.incIy, .iy, 1), (.decIx, .ix, -1), (.decIy, .iy, -1)],
      Completes m.1 s fun t =>
        ((t.xy m.2.1).toNat : Int) = ((s.xy m.2.1).toNat + m.2.2) % 65536 ∧
        Frame [xyLoc m.2.1] [] s t ∧ Finishes .xy2 s t)

/-! ## Rotates and shifts (45_rotate_shift.md) -/

/-- R900 to R903: the accumulator rotates, S, Z and P/V kept. -/
def Obligations.AccumulatorRotates : Prop :=
  ∀ s : State,
    ∀ p ∈ [(Instr.rlca, RotOp.rlc), (.rla, .rl), (.rrca, .rrc), (.rra, .rr)],
      Completes p.1 s fun t =>
        t.cpu.a.toNat = rotated p.2 s.flags.c s.cpu.a.toNat ∧
        t.flags = { s.flags with h := false, n := false, c := shiftedOut p.2 s.cpu.a.toNat,
                                 y := t.cpu.a.getLsbD 5, x := t.cpu.a.getLsbD 3 } ∧
        Frame [.reg .a, .f] [] s t ∧ Finishes .u1 s t

/-- R905, R906, R910 to R933: the eight CB-group operations on a register, on `(HL)` and on `(XY+d)`, all flags written. -/
def Obligations.RotatesAndShifts : Prop :=
  ∀ (s : State) (r : Reg8) (d : Byte), s.mem.wf = true →
    ∀ k ∈ rotRows,
      let flagsOf (v w : Byte) (t : State) : Prop :=
        SZYX w t.flags ∧ t.flags.h = false ∧ t.flags.pv = decide (ones w % 2 = 0) ∧ t.flags.n = false ∧
        t.flags.c = shiftedOut k.o v.toNat
      (Completes (k.r r) s fun t =>
        (t.reg r).toNat = rotated k.o s.flags.c (s.reg r).toNat ∧ flagsOf (s.reg r) (t.reg r) t ∧
        Frame [.reg r, .f] [] s t ∧ Finishes .cb2 s t) ∧
      (∀ m ∈ [(k.hl, Format.cb2, s.hl), (k.ixd d, .xycb4, s.ea .ix d), (k.iyd d, .xycb4, s.ea .iy d)],
        Completes m.1 s fun t =>
          (t.peek m.2.2).toNat = rotated k.o s.flags.c (s.peek m.2.2).toNat ∧
          flagsOf (s.peek m.2.2) (t.peek m.2.2) t ∧ Frame [.f] [m.2.2] s t ∧ Finishes m.2.1 s t)

/-- R940, R941: the digit rotates: the three digits move left or right by one, the high digit of A stays. -/
def Obligations.DigitRotates : Prop :=
  ∀ s : State, s.mem.wf = true →
    let a := s.cpu.a.toNat
    let m := (s.peek s.hl).toNat
    ∀ p ∈ [(Instr.rld, m / 16, 16 * (m % 16) + a % 16), (.rrd, m % 16, 16 * (a % 16) + m / 16)],
      Completes p.1 s fun t =>
        t.cpu.a.toNat = 16 * (a / 16) + p.2.1 ∧ (t.peek s.hl).toNat = p.2.2 ∧
        SZYX t.cpu.a t.flags ∧ t.flags.h = false ∧ t.flags.pv = decide (ones t.cpu.a % 2 = 0) ∧ t.flags.n = false ∧
        t.flags.c = s.flags.c ∧ Frame [.reg .a, .f] [s.hl] s t ∧ Finishes .ed2 s t

/-! ## Bits (46_bit.md) -/

/-- R1000 to R1003: BIT in every form: Z and P/V the complement of the bit, S bit 7 where it is the bit tested, H = 1, N = 0, C
kept; X and Y from the register, from the high byte of the indexed address, or for `(HL)` a draw (R1002), which advances the
model's own draw counter (log 11). -/
def Obligations.BitTests : Prop :=
  ∀ (s : State) (b : Fin 8) (r : Reg8) (d : Byte),
    let tests (v : Byte) (t : State) : Prop :=
      t.flags.z = !v.getLsbD b.val ∧ t.flags.pv = !v.getLsbD b.val ∧
      t.flags.s = (decide (b = 7) && v.getLsbD 7) ∧ t.flags.h = true ∧ t.flags.n = false ∧ t.flags.c = s.flags.c
    (∀ p ∈ [(Instr.bitBR b r, Format.cb2, s.reg r, s.reg r),
            (.bitBIxd d b, .xycb4, s.peek (s.ea .ix d), hi8 (s.ea .ix d)),
            (.bitBIyd d b, .xycb4, s.peek (s.ea .iy d), hi8 (s.ea .iy d))],
      Completes p.1 s fun t =>
        tests p.2.2.1 t ∧ t.flags.y = p.2.2.2.getLsbD 5 ∧ t.flags.x = p.2.2.2.getLsbD 3 ∧
        Frame [.f] [] s t ∧ Finishes p.2.1 s t) ∧
    (Completes (.bitBHl b) s fun t =>
      tests (s.peek s.hl) t ∧ t.host = { s.host with draws := s.host.draws + 1 } ∧
      Frame [.f] [] s t ∧ EndsAt .cb2 (s.after .cb2) s t)

/-- R1004 to R1009: SET and RES in every form write the one bit and no flag. -/
def Obligations.SetAndReset : Prop :=
  ∀ (s : State) (b : Fin 8) (r : Reg8) (d : Byte), s.mem.wf = true →
    ∀ p ∈ [(Instr.setBR b r, Instr.setBHl b, Instr.setBIxd d b, Instr.setBIyd d b, true),
           (.resBR b r, .resBHl b, .resBIxd d b, .resBIyd d b, false)],
      let written (v w : Byte) : Prop :=
        ∀ k, k < 8 → w.getLsbD k = if k = b.val then p.2.2.2.2 else v.getLsbD k
      (Completes p.1 s fun t => written (s.reg r) (t.reg r) ∧ Frame [.reg r] [] s t ∧ Finishes .cb2 s t) ∧
      (∀ m ∈ [(p.2.1, Format.cb2, s.hl), (p.2.2.1, .xycb4, s.ea .ix d), (p.2.2.2.1, .xycb4, s.ea .iy d)],
        Completes m.1 s fun t =>
          written (s.peek m.2.2) (t.peek m.2.2) ∧ Frame [] [m.2.2] s t ∧ Finishes m.2.1 s t)

/-! ## Jumps, calls, returns (47_jump_call_return.md) -/

/-- R306, R1100 to R1107: every jump goes to its target, or past itself where its condition does not hold; each condition
reads its flag bit; relative targets count from the next instruction, signed. Only DJNZ writes a register, B. -/
def Obligations.JumpsReachTheirTarget : Prop :=
  ∀ (s : State) (cc : Cond) (jc : JrCond) (nn : Word) (e : Byte),
    let rel : Word := BitVec.ofInt 16 (s.cpu.pc.toNat + 2 + signed8 e)
    (∀ p ∈ [(0, Cond.nz, 6, false), (1, .z, 6, true), (2, .nc, 0, false), (3, .c, 0, true),
            (4, .po, 2, false), (5, .pe, 2, true), (6, .p, 7, false), (7, .m, 7, true)],
      condOf p.1 = p.2.1 ∧ condHolds s.flags p.2.1 = (s.cpu.f.getLsbD p.2.2.1 == p.2.2.2)) ∧
    (∀ q ∈ [(JrCond.nz, Cond.nz), (.z, .z), (.nc, .nc), (.c, .c)],
      jrCondHolds s.flags q.1 = condHolds s.flags q.2) ∧
    (∀ p ∈ [(Instr.jpNn nn, Format.u3nn, nn),
            (.jpCcNn cc nn, .u3nn, if condHolds s.flags cc then nn else s.after .u3nn),
            (.jrE e, .u2e, rel), (.jrCcE jc e, .u2e, if jrCondHolds s.flags jc then rel else s.after .u2e),
            (.jpHl, .u1, s.hl), (.jpIx, .xy2, s.cpu.ix), (.jpIy, .xy2, s.cpu.iy)],
      Completes p.1 s fun t => Frame [] [] s t ∧ t.host = s.host ∧ EndsAt p.2.1 p.2.2 s t) ∧
    (Completes (.djnzE e) s fun t =>
      t.cpu.b = s.cpu.b - 1 ∧ Frame [.reg .b] [] s t ∧ t.host = s.host ∧
      EndsAt .u2e (if s.cpu.b = 1 then s.after .u2e else rel) s t)

/-- R1108, R1109, R1114: a call or restart pushes the address after it and goes to its target; a call whose condition does not
hold pushes nothing. -/
def Obligations.CallsPushTheReturnAddress : Prop :=
  ∀ (s : State) (cc : Cond) (nn : Word) (n : Fin 8), s.mem.wf = true →
    let calls (i : Instr) (fm : Format) (target : Word) : Prop :=
      Completes i s fun t =>
        t.cpu.sp = s.cpu.sp - 2 ∧ cat (t.peek (s.cpu.sp - 1)) (t.peek (s.cpu.sp - 2)) = s.after fm ∧
        Frame [.sp] [s.cpu.sp - 1, s.cpu.sp - 2] s t ∧ t.host = s.host ∧ EndsAt fm target s t
    calls (.callNn nn) .u3nn nn ∧ calls (.rstP n) .u1 (BitVec.ofNat 16 (8 * n.val)) ∧
    (condHolds s.flags cc = true → calls (.callCcNn cc nn) .u3nn nn) ∧
    (condHolds s.flags cc = false →
      Completes (.callCcNn cc nn) s fun t => Frame [] [] s t ∧ Finishes .u3nn s t)

/-- R1110 to R1113: a return goes to the word at SP and moves SP up by two; RETI and RETN also copy IFF2 into IFF1; a RET
whose condition does not hold does neither. -/
def Obligations.ReturnsPopTheAddress : Prop :=
  ∀ (s : State) (cc : Cond),
    let target : Word := cat (s.peek (s.cpu.sp + 1)) (s.peek s.cpu.sp)
    (Completes .ret s fun t =>
      t.cpu.sp = s.cpu.sp + 2 ∧ Frame [.sp] [] s t ∧ t.host = s.host ∧ EndsAt .u1 target s t) ∧
    (Completes (.retCc cc) s fun t =>
      if condHolds s.flags cc then
        t.cpu.sp = s.cpu.sp + 2 ∧ Frame [.sp] [] s t ∧ t.host = s.host ∧ EndsAt .u1 target s t
      else Frame [] [] s t ∧ Finishes .u1 s t) ∧
    (∀ i ∈ [Instr.reti, .retn],
      Completes i s fun t =>
        t.cpu.sp = s.cpu.sp + 2 ∧ t.cpu.iff1 = s.cpu.iff2 ∧
        Frame [.sp, .iff1] [] s t ∧ t.host = s.host ∧ EndsAt .ed2 target s t)

/-! ## Input and output (48_io.md) -/

/-- R1200 to R1202, R1207, R1208: IN takes the byte the host answers for its port, for every byte it may be, and the host sees
which port was read; OUT hands port and value to the host; neither changes other core state. A port read takes the first
answer the host holds for that port, or for any, and passes over the answers for other ports (the host as data: log 9). -/
def Obligations.PortTransfers : Prop :=
  ∀ (s : State) (n : Byte) (r : Reg8),
    (Completes (.inAN n) s fun t =>
      let port := cat s.cpu.a n
      t.cpu.a = (s.host.portRead port).1 ∧ t.host = (s.host.portRead port).2 ∧
      t.host.portLog = s.host.portLog ++ [.read port t.cpu.a] ∧
      Frame [.reg .a] [] s t ∧ EndsAt .u2n (s.after .u2n) s t) ∧
    (Completes (.inRC r) s fun t =>
      let v := (s.host.portRead s.bc).1
      t.reg r = v ∧ SZYX v t.flags ∧ t.flags.h = false ∧ t.flags.pv = decide (ones v % 2 = 0) ∧ t.flags.n = false ∧
      t.flags.c = s.flags.c ∧ t.host = (s.host.portRead s.bc).2 ∧
      t.host.portLog = s.host.portLog ++ [.read s.bc v] ∧
      Frame [.reg r, .f] [] s t ∧ EndsAt .ed2 (s.after .ed2) s t) ∧
    (∀ p ∈ [(Instr.outNA n, Format.u2n, cat s.cpu.a n, s.cpu.a), (.outCR r, .ed2, s.bc, s.reg r)],
      Completes p.1 s fun t =>
        t.host = { s.host with portLog := s.host.portLog ++ [.write p.2.2.1 p.2.2.2] } ∧
        Frame [] [] s t ∧ EndsAt p.2.1 (s.after p.2.1) s t) ∧
    (∀ (port : Word) (others rest : List PortAnswer) (a : PortAnswer),
      s.host.portIn = others ++ a :: rest → (∀ o ∈ others, ∃ q, o.port = some q ∧ q ≠ port) →
      (a.port = none ∨ a.port = some port) →
        (s.host.portRead port).1 = a.value ∧
        (s.host.portRead port).2.portIn = if a.stays then s.host.portIn else others ++ rest)

/-- R1203 to R1206, R1209 to R1213, R520, R523: one block input or output. The port of an input is BC before B is decremented,
of an output after it, and the host sees the port (the host as data: log 9). A repeating form with `B ≠ 1` before keeps PC,
and its X, Y, H and P/V are draws, which advance the model's own draw counter (log 11). -/
def Obligations.BlockIoMovesOneByte : Prop :=
  ∀ s : State, s.mem.wf = true →
    let b := s.cpu.b - 1
    let flagsOf (v : Byte) (k : Nat) (again : Bool) (t : State) : Prop :=
      t.flags.s = b.getLsbD 7 ∧ t.flags.z = decide (b = 0) ∧ t.flags.n = v.getLsbD 7 ∧ t.flags.c = decide (255 < k) ∧
      (again = false → t.flags.y = b.getLsbD 5 ∧ t.flags.x = b.getLsbD 3 ∧ t.flags.h = decide (255 < k) ∧
        t.flags.pv = decide (ones (BitVec.ofNat 8 (k % 8) ^^^ b) % 2 = 0))
    (∀ p ∈ [(Instr.ini, (1 : Word), false), (.ind, 0xFFFF, false), (.inir, 1, true), (.indr, 0xFFFF, true)],
      Completes p.1 s fun t =>
        let v := (s.host.portRead s.bc).1
        let host := (s.host.portRead s.bc).2
        let again := p.2.2 && decide (s.cpu.b ≠ 1)
        t.peek s.hl = v ∧ t.hl = s.hl + p.2.1 ∧ t.cpu.b = b ∧
        flagsOf v (v.toNat + (s.cpu.c + lo8 p.2.1).toNat) again t ∧
        t.host = (if again then { host with draws := host.draws + 1 } else host) ∧
        t.host.portLog = s.host.portLog ++ [.read s.bc v] ∧
        Frame [.reg .b, .reg .h, .reg .l, .f] [s.hl] s t ∧
        EndsAt .ed2 (if again then s.cpu.pc else s.after .ed2) s t) ∧
    (∀ p ∈ [(Instr.outi, (1 : Word), false), (.outd, 0xFFFF, false), (.otir, 1, true), (.otdr, 0xFFFF, true)],
      Completes p.1 s fun t =>
        let v := s.peek s.hl
        let host := { s.host with portLog := s.host.portLog ++ [.write (cat b s.cpu.c) v] }
        let again := p.2.2 && decide (s.cpu.b ≠ 1)
        t.hl = s.hl + p.2.1 ∧ t.cpu.b = b ∧ flagsOf v (v.toNat + (lo8 (s.hl + p.2.1)).toNat) again t ∧
        t.host = (if again then { host with draws := host.draws + 1 } else host) ∧
        Frame [.reg .b, .reg .h, .reg .l, .f] [] s t ∧
        EndsAt .ed2 (if again then s.cpu.pc else s.after .ed2) s t)

/-! ## Encoding (30_encoding.md) -/

/-- R301, R309: at an untrapped PC, with no interrupt to accept and not halted, a step executes exactly the instruction whose
bytes stand at PC; this machine adds nothing around it. -/
def Obligations.StepRunsTheDecodedInstruction : Prop :=
  ∀ (s : State) (i : Instr),
    AtTrap s.cpu.pc s → trapKind s.cfg.biosBase s.cpu.pc = .none →
    decode4 (s.peek s.cpu.pc) (s.peek (s.cpu.pc + 1)) (s.peek (s.cpu.pc + 2)) (s.peek (s.cpu.pc + 3)) = .ok i →
      step s = exec i s

/-- R303 to R310 and the rows: words written out from the encodings, one or more of every family and every prefix, decode to
their instruction. -/
def Obligations.EncodedWordsDecode : Prop :=
  ∀ p ∈ [([0x78#8], Instr.ldRR .a .b), ([0xDD#8, 0x36#8, 0xFF#8, 0x42#8], .ldIxdN 0xFF 0x42),
         ([0x11#8, 0x09#8, 0x01#8], .ldDdNn .de 0x0109), ([0xED#8, 0x7B#8, 0x00#8, 0x40#8], .ldDdMem .sp 0x4000),
         ([0xDD#8, 0x7C#8], .ldIxHalves .a .hi), ([0xF1#8], .popQq .af), ([0xED#8, 0xB0#8], .ldir), ([0xD9#8], .exx),
         ([0xFD#8, 0x85#8], .addIyh .lo), ([0xFE#8, 0x42#8], .cpN 0x42), ([0xFD#8, 0x35#8, 0x80#8], .decIyd 0x80),
         ([0x27#8], .daa), ([0xED#8, 0x5E#8], .im2), ([0xED#8, 0x52#8], .sbcHlSs .de), ([0xFD#8, 0x39#8], .addIyPp .sp),
         ([0xCB#8, 0x30#8], .sllR .b), ([0xDD#8, 0xCB#8, 0xFE#8, 0x06#8], .rlcIxd 0xFE), ([0xED#8, 0x6F#8], .rld),
         ([0xCB#8, 0x7C#8], .bitBR 7 .h), ([0xFD#8, 0xCB#8, 0xFF#8, 0xD6#8], .setBIyd 0xFF 2),
         ([0x20#8, 0x05#8], .jrCcE .nz 0x05), ([0xDC#8, 0x34#8, 0x12#8], .callCcNn .c 0x1234), ([0xFF#8], .rstP 7),
         ([0xED#8, 0x4D#8], .reti), ([0xED#8, 0x59#8], .outCR .e), ([0xDB#8, 0x10#8], .inAN 0x10)],
    decode p.1 = .ok (p.2, [])

/-- R302, R310: decoding the bytes of any instruction, whatever follows them, gives that instruction with every operand, and
the bytes that follow. -/
def Obligations.DecodeInvertsEncode : Prop :=
  ∀ (i : Instr) (rest : List Byte), i.wf = true → decode (encode i ++ rest) = .ok (i, rest)

/-- R302: what the decoder reads is an instruction whose encoding is the bytes read: no byte sequence is read as another's. -/
def Obligations.EncodeInvertsDecode : Prop :=
  ∀ (b0 b1 b2 b3 : Byte) (i : Instr), decode4 b0 b1 b2 b3 = .ok i →
    i.wf = true ∧ encode i = [b0, b1, b2, b3].take i.length

/-- R311: the unsupported encodings are exactly the listed ones, and a step at one faults and executes nothing. -/
def Obligations.UnsupportedEncodingsFault : Prop :=
  (∀ b0 b1 b2 b3 : Byte, (∃ e, decode4 b0 b1 b2 b3 = .error e) ↔ unsupportedBytes b0 b1 b3 = true) ∧
  (∀ s : State, AtTrap s.cpu.pc s → trapKind s.cfg.biosBase s.cpu.pc = .none →
    unsupportedBytes (s.peek s.cpu.pc) (s.peek (s.cpu.pc + 1)) (s.peek (s.cpu.pc + 3)) = true →
      ∃ t, step s = .next t ∧ t.host = s.host ∧
        FaultsWith (.unsupportedOpcode s.cpu.pc
          [s.peek s.cpu.pc, s.peek (s.cpu.pc + 1), s.peek (s.cpu.pc + 2), s.peek (s.cpu.pc + 3)]) s t)

/-! ## Memory and the invariant -/

/-- R201, R202: a byte read after it was written is the byte written, every other byte is unchanged; a word is two bytes, the
low one at the lower address, modulo 65536. -/
def Obligations.MemoryReadsWhatWasWritten : Prop :=
  ∀ (m : Memory) (a b : Word) (v : Byte) (w : Word), m.wf = true →
    (m.write a v).read a = v ∧ (b ≠ a → (m.write a v).read b = m.read b) ∧
    (m.read16 a).toNat = (m.read a).toNat + 256 * (m.read (a + 1)).toNat ∧
    ((m.write16 a w).read a).toNat = w.toNat % 256 ∧ ((m.write16 a w).read (a + 1)).toNat = w.toNat / 256 ∧
    (b ≠ a → b ≠ a + 1 → (m.write16 a w).read b = m.read b)

/-- Every step keeps the invariant: memory in its canonical form, HANDLES a partial map on 1..MAX_OPEN_FILES (R124), the names
of SEARCH 11 bytes long (R123). -/
def Obligations.StepKeepsTheInvariant : Prop :=
  ∀ s t : State, s.Inv → step s = .next t → t.Inv

/-- The invariant holds after reset, and after every launch that happens. Reset is the launch of an empty image at 0x0100
(the model's choice of launch form, log 4) into empty memory. -/
def Obligations.ResetMeetsTheInvariant : Prop :=
  State.reset.Inv ∧ launchAt [] 0x0100 0x0100 { State.reset with mem := [] } = .next State.reset ∧
  ∀ (s t : State) (image : List Byte) (loadAt entry : Word), s.Inv → launchAt image loadAt entry s = .next t → t.Inv

/-! ## The whole machine -/

/-- R126: "Only `Running` has a next step; `Exited` and `Faulted` are final", and every running machine has one. -/
def Obligations.OnlyRunningMachinesStep : Prop :=
  ∀ s : State, (∃ t, step s = .next t) ↔ s.status = .running

/-- R1501: a step that faults leaves every component of the core but STATUS as it was. -/
def Obligations.FaultsLeaveTheCore : Prop :=
  ∀ (s t : State) (f : Fault), s.status = .running → step s = .next t → t.status = .faulted f → FaultsWith f s t

/-- R1311, R1315, R1340: no instruction, interrupt, idle step or BIOS trap changes the CP/M ambient state; only a BDOS trap
does. No step changes the parameters. -/
def Obligations.OnlyBdosChangesAmbientState : Prop :=
  ∀ s t : State, step s = .next t → t.cfg = s.cfg ∧ (nextEvent s ≠ .bdos → t.amb = s.amb)

/-- R102, R111 to R117: the instructions that write the shadow set, I, IM, IFF1, IFF2, HALT, EI_DELAY and all of R are the
ones named there, and no other instruction does; every other one that completes advances R[6:0] by its M1 cycles modulo 128
and keeps R[7]. -/
def Obligations.ControlRegistersHaveFewWriters : Prop :=
  ∀ (i : Instr) (s t : State), s.status = .running → exec i s = .next t → t.status = .running →
    (t.cpu.alt = s.cpu.alt ∨ i = .exAfAf ∨ i = .exx) ∧
    (t.cpu.i = s.cpu.i ∨ i = .ldIA) ∧
    (t.cpu.im = s.cpu.im ∨ i = .im0 ∨ i = .im1 ∨ i = .im2) ∧
    ((t.cpu.iff1 = s.cpu.iff1 ∧ t.cpu.iff2 = s.cpu.iff2) ∨ i = .ei ∨ i = .di ∨ i = .reti ∨ i = .retn) ∧
    (t.cpu.halt = s.cpu.halt ∨ i = .halt) ∧
    (t.cpu.eiDelay = false ∨ i = .ei) ∧
    ((t.cpu.r.toNat % 128 = (s.cpu.r.toNat + i.format.m1) % 128 ∧ t.cpu.r.toNat / 128 = s.cpu.r.toNat / 128) ∨
      i = .ldRefreshA)

/-! ## Interrupts (60_exceptions.md) -/

/-- R1510: the acceptance of an NMI. -/
def Obligations.NmiAcceptance : Prop :=
  ∀ s : State, s.status = .running → s.cfg.interruptsModeled = true → s.host.nmiPending = true → s.mem.wf = true →
    ∃ t, step s = .next t ∧ t.host = { s.host with nmiPending := false } ∧
      t.cpu.halt = false ∧ t.cpu.r = bumpR 1 s.cpu.r ∧ t.cpu.sp = s.cpu.sp - 2 ∧
      cat (t.peek (s.cpu.sp - 1)) (t.peek (s.cpu.sp - 2)) = s.cpu.pc ∧
      t.cpu.iff1 = false ∧ t.cpu.iff2 = s.cpu.iff2 ∧ t.cpu.pc = 0x0066 ∧ t.cpu.eiDelay = false ∧
      Frame [.sp, .iff1, .halt] [s.cpu.sp - 1, s.cpu.sp - 2] s t

/-- R1511, R1512, R1513: the acceptance of INT in the three modes; a bus byte that is no RST in mode 0 is the fault. The
vector of mode 2 is read after the push (the model's reading, log 19). -/
def Obligations.IntAcceptance : Prop :=
  ∀ (s : State) (bus : Byte), s.status = .running → s.cfg.interruptsModeled = true → s.host.nmiPending = false →
    s.host.intLine = some bus → s.cpu.iff1 = true → s.cpu.eiDelay = false → s.mem.wf = true →
    let enters (target : State → Word) : Prop :=
      ∃ t, step s = .next t ∧ t.host = s.host ∧ t.cpu.halt = false ∧ t.cpu.r = bumpR 1 s.cpu.r ∧
        t.cpu.sp = s.cpu.sp - 2 ∧ cat (t.peek (s.cpu.sp - 1)) (t.peek (s.cpu.sp - 2)) = s.cpu.pc ∧
        t.cpu.iff1 = false ∧ t.cpu.iff2 = false ∧ t.cpu.pc = target t ∧ t.cpu.eiDelay = false ∧
        Frame [.sp, .iff1, .iff2, .halt] [s.cpu.sp - 1, s.cpu.sp - 2] s t
    (s.cpu.im = .im0 → bus &&& 0xC7 = 0xC7 → enters fun _ => BitVec.ofNat 16 (bus &&& 0x38).toNat) ∧
    (s.cpu.im = .im0 → bus &&& 0xC7 ≠ 0xC7 →
      ∃ t, step s = .next t ∧ FaultsWith (.unsupportedIm0Opcode s.cpu.pc [bus]) s t ∧ t.host = s.host) ∧
    (s.cpu.im = .im1 → enters fun _ => 0x0038) ∧
    (s.cpu.im = .im2 → enters fun t => cat (t.peek (cat s.cpu.i bus + 1)) (t.peek (cat s.cpu.i bus)))

/-- R1505, R1503, R116: INT is accepted only with IFF1 = 1 and EI_DELAY = 0, so never right after DI, EI or an acceptance; a
pending NMI is accepted whatever IFF1, IFF2, EI_DELAY and IM hold, before INT, the halt and the traps. With
interrupts not modelled neither is, whatever the host's lines hold (R1502; the lines as fields of the host: log 10). -/
def Obligations.InterruptMasking : Prop :=
  ∀ s t : State,
    (∀ bus, nextEvent s = .int bus → s.cpu.iff1 = true ∧ s.cpu.eiDelay = false ∧ s.host.intLine = some bus) ∧
    (∀ i ∈ [Instr.di, .ei], exec i s = .next t → ∀ bus, nextEvent t ≠ .int bus) ∧
    (step s = .next t → (nextEvent s = .nmi ∨ ∃ bus, nextEvent s = .int bus) → t.status = .running →
      ∀ bus, nextEvent t ≠ .int bus) ∧
    (s.cfg.interruptsModeled = true → s.host.nmiPending = true → nextEvent s = .nmi) ∧
    (s.cfg.interruptsModeled = false → nextEvent s ≠ .nmi ∧ ∀ bus, nextEvent s ≠ .int bus)

/-! ## Traps (49_cpm_traps.md) -/

/-- R1310, R1312: the comparator looks at PC alone: 0x0000 exits and changes nothing but STATUS, 0x0005 is the BDOS, the first
byte of BIOS slot i is slot i, every other address is none of these. That the exit keeps EI_DELAY as well is the model's
reading of R1312 against R116 (log 18). -/
def Obligations.TrapComparator : Prop :=
  ∀ s : State, paramsOk s.cfg = true →
    trapKind s.cfg.biosBase 0x0000 = .exit ∧ trapKind s.cfg.biosBase 0x0005 = .bdos ∧
    (∀ k, k ≤ 16 → trapKind s.cfg.biosBase (s.cfg.biosBase + BitVec.ofNat 16 (3 * k)) = .bios k) ∧
    (∀ pc : Word, pc ≠ 0x0000 → pc ≠ 0x0005 →
      (∀ k, k ≤ 16 → pc ≠ s.cfg.biosBase + BitVec.ofNat 16 (3 * k)) → trapKind s.cfg.biosBase pc = .none) ∧
    (AtTrap 0x0000 s → step s = .next { s with status := .exited })

/-- R1350, R1385: a BDOS function outside the nineteen and a BIOS slot outside 2 to 5 fault with no effect. -/
def Obligations.UnsupportedServicesFault : Prop :=
  ∀ s : State,
    (AtTrap 0x0005 s →
      s.cpu.c.toNat ∉ [0x01, 0x02, 0x09, 0x0A, 0x0B, 0x0C, 0x0D, 0x0E, 0x0F, 0x10, 0x11, 0x12, 0x13, 0x14, 0x15, 0x16,
                       0x19, 0x1A, 0x20] →
      ∃ t, step s = .next t ∧ FaultsWith (.unsupportedBdosFunction 0x0005 s.cpu.c) s t ∧ t.host = s.host) ∧
    (∀ k, k ∈ [0, 1, 6, 7, 8, 9, 10, 11, 12, 13, 14, 15, 16] → paramsOk s.cfg = true →
      AtTrap (s.cfg.biosBase + BitVec.ofNat 16 (3 * k)) s →
      ∃ t, step s = .next t ∧ FaultsWith (.unsupportedBiosFunction s.cpu.pc k) s t ∧ t.host = s.host)

/-- R1313 to R1316, R1335, R1381 to R1384: a serviced BDOS or BIOS trap pops exactly two bytes into PC, from the memory the
function left, clears EI_DELAY, and keeps every register but A, and for the BDOS L, and B and H of S_BDOSVER; in particular
F, IX, IY, the shadow set, I, R, IFF1, IFF2, IM and HALT. Of the BIOS slots only CONST and CONIN write A. A BDOS function
other than F_SNEXT leaves no iterator but F_SFIRST's own. -/
def Obligations.TrapsPopAndKeepRegisters : Prop :=
  ∀ s t : State, step s = .next t → t.status = .running →
    (nextEvent s = .bdos ∨ ∃ k, nextEvent s = .bios k) →
    t.cpu.pc = cat (t.peek (s.cpu.sp + 1)) (t.peek s.cpu.sp) ∧ t.cpu.sp = s.cpu.sp + 2 ∧ t.cpu.eiDelay = false ∧
    t.cpu.r = s.cpu.r ∧
    (nextEvent s = .bdos → ∀ l, l ∉ [Loc.sp, .reg .a, .reg .l] →
      ¬ (s.cpu.c = 0x0C ∧ (l = .reg .b ∨ l = .reg .h)) → t.loc l = s.loc l) ∧
    (∀ k, nextEvent s = .bios k → ∀ l, l ≠ .sp → ¬ (l = .reg .a ∧ (k = 2 ∨ k = 3)) → t.loc l = s.loc l) ∧
    (nextEvent s = .bdos → s.cpu.c ≠ 0x11 → s.cpu.c ≠ 0x12 → t.amb.search = none)

/-- R1301, R1330 to R1334: the console functions of the BDOS, on a host whose writes succeed (`fails` empty), and on one that
answers `Err` to a write: C_READ at its echo, C_WRITE, and C_WRITESTR at any byte of its string then raise the console fault,
the host effects already made kept (`Err` is scripted, log 7). Console input as data, and that C_STAT finds nothing ready at the end of the input, before a failing read and at a moment that is
marked so, are the model's choice (log 8). -/
def Obligations.BdosConsoleFunctions : Prop :=
  ∀ (s : State) (v : Byte) (rest : List ConIn), AtTrap 0x0005 s →
    (s.cpu.c = 0x01 → s.host.fails = [] → s.host.stdin = .byte v :: rest → ∃ t, step s = .next t ∧ Answers v t ∧
      t.host = { s.host with stdin := rest, stdout := s.host.stdout ++ [v] } ∧
      t.amb = noSearch s.amb ∧ TrapEnds [.reg .a, .reg .l] [] s t) ∧
    (s.cpu.c = 0x01 ∨ s.cpu.c = 0x0A → s.host.stdin = [] ∨ s.host.stdin = .err :: rest →
      ∃ t, step s = .next t ∧ FaultsWith (.consoleIOError 0x0005) s t ∧ t.host.stdout = s.host.stdout) ∧
    (∀ more, s.cpu.c = 0x01 → s.host.fails = true :: more → s.host.stdin = .byte v :: rest →
      ∃ t, step s = .next t ∧ FaultsWith (.consoleIOError 0x0005) s t ∧
        t.host = { s.host with stdin := rest, fails := more }) ∧
    (s.cpu.c = 0x02 → s.host.fails = [] → ∃ t, step s = .next t ∧ t.host = { s.host with stdout := s.host.stdout ++ [s.cpu.e] } ∧
      t.amb = noSearch s.amb ∧ TrapEnds [] [] s t) ∧
    (∀ more, s.cpu.c = 0x02 → s.host.fails = true :: more →
      ∃ t, step s = .next t ∧ FaultsWith (.consoleIOError 0x0005) s t ∧ t.host = { s.host with fails := more }) ∧
    (∀ str : List Byte, s.cpu.c = 0x09 → str.length < 65536 → 0x24 ∉ str →
      (∀ k, (h : k < str.length) → s.peek (s.de + BitVec.ofNat 16 k) = str[k]) →
      s.peek (s.de + BitVec.ofNat 16 str.length) = 0x24 →
      (s.host.fails = [] → ∃ t, step s = .next t ∧ t.host = { s.host with stdout := s.host.stdout ++ str } ∧
        t.amb = noSearch s.amb ∧ TrapEnds [] [] s t) ∧
      (∀ n more, n < str.length → s.host.fails = List.replicate n false ++ true :: more →
        ∃ t, step s = .next t ∧ FaultsWith (.consoleIOError 0x0005) s t ∧
          t.host = { s.host with stdout := s.host.stdout ++ str.take n, fails := more })) ∧
    (s.cpu.c = 0x09 → (∀ a, s.peek a ≠ 0x24) →
      ∃ t, step s = .next t ∧ FaultsWith (.unterminatedString 0x0005 s.de) s t ∧ t.host = s.host) ∧
    (∀ (typed : List Byte) (stop : Byte), s.cpu.c = 0x0A → s.mem.wf = true → 0x0A ∉ typed → 0x0D ∉ typed →
      (stop = 0x0A ∨ stop = 0x0D) → s.host.stdin = typed.map .byte ++ .byte stop :: rest →
      let n := min typed.length (s.peek s.de).toNat
      ∃ t, step s = .next t ∧ (t.peek (s.de + 1)).toNat = n ∧
        (∀ k, (h : k < typed.length) → k < n → t.peek (s.de + 2 + BitVec.ofNat 16 k) = typed[k]) ∧
        t.host = { s.host with stdin := rest } ∧ t.amb = noSearch s.amb ∧
        TrapEnds [] ((List.range (n + 1)).map fun k => s.de + 1 + BitVec.ofNat 16 k) s t) ∧
    (s.cpu.c = 0x0B → ∃ t, step s = .next t ∧ t.amb = noSearch s.amb ∧ TrapEnds [.reg .a, .reg .l] [] s t ∧
      (s.host.stdin = .byte v :: rest → Answers 0xFF t ∧ t.host = s.host) ∧
      (s.host.stdin = [] ∨ s.host.stdin = .err :: rest → Answers 0x00 t ∧ t.host = s.host) ∧
      (s.host.stdin = .wait :: rest → Answers 0x00 t ∧ t.host = { s.host with stdin := rest }))

/-- R1301, R1381 to R1384: the four serviced BIOS slots, on a host whose writes succeed (`fails` empty), and CONOUT and LIST on
one that answers `Err` to the write, which raises the console fault (`Err` is scripted, log 7). Console input as data, and that CONST finds nothing ready at the end of the input, before a failing read and at a moment that is marked so, are
the model's choice (log 8). -/
def Obligations.BiosConsoleSlots : Prop :=
  ∀ (s : State) (v : Byte) (rest : List ConIn), paramsOk s.cfg = true →
    (AtTrap (s.cfg.biosBase + 6) s → ∃ t, step s = .next t ∧ t.amb = s.amb ∧ TrapEnds [.reg .a] [] s t ∧
      (s.host.stdin = .byte v :: rest → t.cpu.a = 0xFF ∧ t.host = s.host) ∧
      (s.host.stdin = [] ∨ s.host.stdin = .err :: rest → t.cpu.a = 0x00 ∧ t.host = s.host) ∧
      (s.host.stdin = .wait :: rest → t.cpu.a = 0x00 ∧ t.host = { s.host with stdin := rest })) ∧
    (AtTrap (s.cfg.biosBase + 9) s → s.host.stdin = .byte v :: rest → ∃ t, step s = .next t ∧ t.cpu.a = v ∧
      t.host = { s.host with stdin := rest } ∧ t.amb = s.amb ∧ TrapEnds [.reg .a] [] s t) ∧
    (AtTrap (s.cfg.biosBase + 9) s → s.host.stdin = [] ∨ s.host.stdin = .err :: rest →
      ∃ t, step s = .next t ∧ FaultsWith (.consoleIOError s.cpu.pc) s t) ∧
    (∀ slot ∈ [(12 : Word), 15], AtTrap (s.cfg.biosBase + slot) s →
      (s.host.fails = [] → ∃ t, step s = .next t ∧
        t.host = { s.host with stdout := s.host.stdout ++ [s.cpu.c] } ∧ t.amb = s.amb ∧ TrapEnds [] [] s t) ∧
      (∀ more, s.host.fails = true :: more → ∃ t, step s = .next t ∧
        FaultsWith (.consoleIOError s.cpu.pc) s t ∧ t.host = { s.host with fails := more }))

/-- R1335 to R1337, R1347 to R1349: the version, drive, DMA and user functions. -/
def Obligations.BdosSystemFunctions : Prop :=
  ∀ s : State, AtTrap 0x0005 s →
    (s.cpu.c = 0x0C → ∃ t, step s = .next t ∧ t.hl = 0x0022 ∧ t.cpu.a = 0x22 ∧ t.cpu.b = 0x00 ∧
      t.amb = noSearch s.amb ∧ t.host = s.host ∧ TrapEnds [.reg .a, .reg .b, .reg .h, .reg .l] [] s t) ∧
    (s.cpu.c = 0x0D → ∃ t, step s = .next t ∧ Answers 0x00 t ∧
      t.amb = { noSearch s.amb with curDrive := 0, dma := 0x0080 } ∧ t.host = s.host ∧
      TrapEnds [.reg .a, .reg .l] [] s t) ∧
    (∀ d : Fin 16, s.cpu.c = 0x0E → s.cpu.e.toNat = d.val → s.host.dirExists (0x41 + BitVec.ofNat 8 d.val) = true →
      ∃ t, step s = .next t ∧ Answers 0x00 t ∧ t.amb = { noSearch s.amb with curDrive := d } ∧ t.host = s.host ∧
        TrapEnds [.reg .a, .reg .l] [] s t) ∧
    (s.cpu.c = 0x0E → (15 < s.cpu.e.toNat ∨ s.host.dirExists (0x41 + s.cpu.e) = false) →
      ∃ t, step s = .next t ∧ Answers 0xFF t ∧ t.amb = noSearch s.amb ∧ t.host = s.host ∧
        TrapEnds [.reg .a, .reg .l] [] s t) ∧
    (s.cpu.c = 0x19 → ∃ t, step s = .next t ∧ Answers (BitVec.ofNat 8 s.amb.curDrive.val) t ∧
      t.amb = noSearch s.amb ∧ t.host = s.host ∧ TrapEnds [.reg .a, .reg .l] [] s t) ∧
    (s.cpu.c = 0x1A → ∃ t, step s = .next t ∧ t.amb = { noSearch s.amb with dma := s.de } ∧ t.host = s.host ∧
      TrapEnds [] [] s t) ∧
    (s.cpu.c = 0x20 → s.cpu.e = 0xFF → ∃ t, step s = .next t ∧ Answers (BitVec.ofNat 8 s.amb.curUser.val) t ∧
      t.amb = noSearch s.amb ∧ t.host = s.host ∧ TrapEnds [.reg .a, .reg .l] [] s t) ∧
    (s.cpu.c = 0x20 → s.cpu.e ≠ 0xFF → ∃ t, step s = .next t ∧ t.amb.curUser.val = s.cpu.e.toNat % 32 ∧
      t.amb = { noSearch s.amb with curUser := t.amb.curUser } ∧ t.host = s.host ∧ TrapEnds [] [] s t)

/-- R1338, R1339, R1346, R1322, R1323, D56: F_OPEN and F_MAKE put the least free handle in the FCB and a record at position 0 in
HANDLES; F_CLOSE removes it and clears the FCB; each answers 0xFF where it cannot: a bad drive byte, a file that is missing or
exists already, a missing directory, no such handle, an exhausted pool (the new host file is closed, a file made stays), a
host call that answers `Err` (HANDLES and memory kept). The record's file identity is the host counter's (log 15); `Err` is
scripted (log 7); a handle is below 65536, where its word is its own (log 22). -/
def Obligations.OpenMakeAndClose : Prop :=
  ∀ (s : State) (d : Fin 16) (h : Nat), AtTrap 0x0005 s → s.mem.wf = true → h < 65536 →
    let name := cpmToHost s.fcbName
    let there := s.host.fileExists (driveLetter d) name
    let opens (t : State) : Prop :=
      Answers 0x00 t ∧
      handle? t.amb.handles h = some { drive := d, hostName := name, pos := 0, fid := s.host.nextFid } ∧
      (∀ k, k ≠ h → handle? t.amb.handles k = handle? s.amb.handles k) ∧
      t.amb = { noSearch s.amb with handles := t.amb.handles } ∧
      (t.peek16 (s.de + 16)).toNat = h ∧ t.host.fileExists (driveLetter d) name = true ∧
      TrapEnds [.reg .a, .reg .l] (twoBytes (s.de + 16)) s t
    let declines (t : State) : Prop :=
      Answers 0xFF t ∧ t.amb = noSearch s.amb ∧ TrapEnds [.reg .a, .reg .l] [] s t
    let fails : Prop := ∃ t, step s = .next t ∧ declines t ∧ t.host = s.host
    (s.host.fails = [] →
      (s.cpu.c = 0x0F → s.fcbDrive = some d → there = true → s.freeHandle = some h → ∃ t, step s = .next t ∧ opens t) ∧
      (s.cpu.c = 0x0F → s.fcbDrive = some d → there = false → fails) ∧
      (s.cpu.c = 0x0F → s.fcbDrive = some d → there = true → s.freeHandle = none → ∃ t, step s = .next t ∧ declines t ∧
        t.host.dirs = s.host.dirs ∧ t.host.openFile? s.host.nextFid = none ∧
        (∀ k, k ≠ s.host.nextFid → t.host.openFile? k = s.host.openFile? k)) ∧
      (s.cpu.c = 0x16 → s.fcbDrive = some d → s.host.dirExists (driveLetter d) = true → there = false →
        s.freeHandle = some h → ∃ t, step s = .next t ∧ opens t) ∧
      (s.cpu.c = 0x16 → s.fcbDrive = some d → s.host.dirExists (driveLetter d) = false → fails) ∧
      (s.cpu.c = 0x16 → s.fcbDrive = some d → s.host.dirExists (driveLetter d) = true → there = false →
        s.freeHandle = none → ∃ t, step s = .next t ∧ declines t ∧
          t.host.file? (driveLetter d) name = some { name := name, data := [] } ∧
          t.host.openFile? s.host.nextFid = none ∧
          (∀ k, k ≠ s.host.nextFid → t.host.openFile? k = s.host.openFile? k)) ∧
      (∀ r, s.cpu.c = 0x10 → s.fcbHandle = h → handle? s.amb.handles h = some r → ∃ t, step s = .next t ∧
        Answers 0x00 t ∧
        handle? t.amb.handles h = none ∧ (∀ k, k ≠ h → handle? t.amb.handles k = handle? s.amb.handles k) ∧
        t.amb = { noSearch s.amb with handles := t.amb.handles } ∧
        (t.peek16 (s.de + 16)).toNat = 0 ∧ t.host.openFile? r.fid = none ∧
        TrapEnds [.reg .a, .reg .l] (twoBytes (s.de + 16)) s t)) ∧
    (s.cpu.c = 0x16 → s.fcbDrive = some d → there = true → fails) ∧
    (s.cpu.c = 0x0F ∨ s.cpu.c = 0x16 → s.fcbDrive = none → fails) ∧
    (s.cpu.c = 0x10 → s.fcbHandle = h → handle? s.amb.handles h = none → fails) ∧
    (∀ more, s.host.fails = true :: more →
      ((s.cpu.c = 0x0F ∧ s.fcbDrive = some d) ∨ (s.cpu.c = 0x16 ∧ s.fcbDrive = some d ∧ there = false) ∨
        (s.cpu.c = 0x10 ∧ ∃ r, handle? s.amb.handles s.fcbHandle = some r)) →
      ∃ t, step s = .next t ∧ declines t ∧ t.host = { s.host with fails := more })

/-- R1344, R1345, R1321, R1323: F_READ and F_WRITE on an open file: the record moves between the file at the handle's position
and memory at DMA, and the position advances. A handle that is not in HANDLES, and a host read or write that answers `Err`
(scripted, log 7), give 0xFF, HANDLES and memory kept; a record that would pass 0xFFFF faults before the host is called. -/
def Obligations.RecordsReadAndWritten : Prop :=
  ∀ s : State, AtTrap 0x0005 s → s.mem.wf = true →
    let declines (t : State) : Prop :=
      Answers 0xFF t ∧ t.amb = noSearch s.amb ∧ TrapEnds [.reg .a, .reg .l] [] s t
    (s.cpu.c = 0x14 ∨ s.cpu.c = 0x15 → handle? s.amb.handles s.fcbHandle = none →
      ∃ t, step s = .next t ∧ declines t ∧ t.host = s.host) ∧
    (∀ r, handle? s.amb.handles s.fcbHandle = some r →
      (s.cpu.c = 0x14 → 0x10000 < s.amb.dma.toNat + 128 →
        ∃ t, step s = .next t ∧ FaultsWith (.dmaOverflow 0x0005 s.amb.dma 128) s t ∧ t.host = s.host) ∧
      (∀ more, s.host.fails = true :: more →
        ((s.cpu.c = 0x14 ∧ s.amb.dma.toNat + 128 ≤ 0x10000) ∨ s.cpu.c = 0x15) →
        ∃ t, step s = .next t ∧ declines t ∧ t.host = { s.host with fails := more }) ∧
      (∀ (o : OpenFile) (f : HostFile), s.host.fails = [] → s.host.openFile? r.fid = some o → o.live = true →
        s.host.file? o.letter o.name = some f →
        let advances (k : Nat) (t : State) : Prop :=
          handle? t.amb.handles s.fcbHandle = some { r with pos := r.pos + k } ∧
          (∀ j, j ≠ s.fcbHandle → handle? t.amb.handles j = handle? s.amb.handles j) ∧
          t.amb = { noSearch s.amb with handles := t.amb.handles }
        (s.cpu.c = 0x14 → s.amb.dma.toNat + 128 ≤ 0x10000 →
          let k := min 128 (f.data.length - r.pos)
          ∃ t, step s = .next t ∧
            Answers (if k = 128 then 0x00 else if k = 0 then 0x01 else s.cfg.partialRecordResult) t ∧
            (∀ j, j < 128 → t.peek (s.amb.dma + BitVec.ofNat 16 j) = f.data.getD (r.pos + j) 0) ∧
            advances k t ∧ t.host = s.host ∧
            TrapEnds [.reg .a, .reg .l] ((List.range 128).map fun j => s.amb.dma + BitVec.ofNat 16 j) s t) ∧
        (s.cpu.c = 0x15 → r.pos ≤ f.data.length →
          ∃ t g, step s = .next t ∧ Answers 0x00 t ∧ t.host.file? o.letter o.name = some g ∧ g.name = f.name ∧
            (∀ j, j < 128 → g.data[r.pos + j]? = some (s.peek (s.amb.dma + BitVec.ofNat 16 j))) ∧
            (∀ j, j < r.pos ∨ r.pos + 128 ≤ j → g.data[j]? = f.data[j]?) ∧
            (∀ l n, l ≠ o.letter ∨ n ≠ o.name → t.host.file? l n = s.host.file? l n) ∧
            advances 128 t ∧ TrapEnds [.reg .a, .reg .l] [] s t)))

/-- R1340 to R1343, R1321, R1323: F_SFIRST writes the image of the first match at DMA and keeps the other names; F_SNEXT goes
through them in order at the current DMA and then answers 0xFF; an image that would pass 0xFFFF faults; F_DELETE of one file
removes it from the host. F_SFIRST and F_DELETE answer 0xFF with no match, no directory, a bad drive byte, or a host listing
that answers `Err` (scripted, log 7). -/
def Obligations.SearchAndDelete : Prop :=
  ∀ (s : State) (d : Fin 16) (dir : HostDir) (m : List Byte × List Byte) (ms : List (List Byte × List Byte)),
    AtTrap 0x0005 s → s.mem.wf = true →
    let fits : Prop := s.amb.dma.toNat + 32 ≤ 0x10000
    let matchesIn (k : List (List Byte × List Byte)) : Prop :=
      s.fcbDrive = some d ∧ s.host.dir? (driveLetter d) = some dir ∧ matchesOf s.fcbName (dir.files.map (·.name)) = k
    let image (nm : List Byte) (db : Byte) (t : State) : Prop :=
      t.peek s.amb.dma = db ∧ (∀ j, (h : j < nm.length) → t.peek (s.amb.dma + 1 + BitVec.ofNat 16 j) = nm[j]) ∧
      (∀ j, j < 20 → t.peek (s.amb.dma + 12 + BitVec.ofNat 16 j) = 0) ∧
      TrapEnds [.reg .a, .reg .l] ((List.range 32).map fun j => s.amb.dma + BitVec.ofNat 16 j) s t
    let declines (t : State) : Prop :=
      Answers 0xFF t ∧ t.amb = noSearch s.amb ∧ TrapEnds [.reg .a, .reg .l] [] s t
    let overflows : Prop :=
      ∃ t, step s = .next t ∧ FaultsWith (.dmaOverflow 0x0005 s.amb.dma 32) s t ∧ t.host = s.host
    (s.host.fails = [] →
      (s.cpu.c = 0x11 → matchesIn (m :: ms) → fits →
        ∃ t, step s = .next t ∧ Answers 0x00 t ∧ image m.2 (s.fcbByte 0) t ∧ t.host = s.host ∧
          t.amb = { s.amb with search := some { driveByte := s.fcbByte 0, drive := d, filter := s.fcbName,
                                                remaining := ms.map (·.2) } }) ∧
      (s.cpu.c = 0x11 → matchesIn (m :: ms) → ¬ fits → overflows) ∧
      (s.cpu.c = 0x11 ∨ s.cpu.c = 0x13 →
        (matchesIn [] ∨ (s.fcbDrive = some d ∧ s.host.dir? (driveLetter d) = none) ∨ s.fcbDrive = none) →
        ∃ t, step s = .next t ∧ declines t ∧ t.host = s.host) ∧
      (s.cpu.c = 0x13 → matchesIn [m] →
        (∀ f ∈ dir.files, ∀ g ∈ dir.files, f.name = g.name → f = g) → dir.files.Nodup →
        ∃ t, step s = .next t ∧ Answers 0x00 t ∧ t.host.fileExists (driveLetter d) m.1 = false ∧
          (∀ l n, l ≠ driveLetter d ∨ n ≠ m.1 → t.host.file? l n = s.host.file? l n) ∧
          t.amb = noSearch s.amb ∧ TrapEnds [.reg .a, .reg .l] [] s t)) ∧
    (∀ more, s.host.fails = true :: more → s.cpu.c = 0x11 ∨ s.cpu.c = 0x13 → s.fcbDrive = some d →
      ∃ t, step s = .next t ∧ declines t ∧ t.host = { s.host with fails := more }) ∧
    (∀ (it : Search) (c : List Byte) (cs : List (List Byte)), s.cpu.c = 0x12 → s.amb.search = some it → c.length = 11 →
      it.remaining = c :: cs →
      (fits → ∃ t, step s = .next t ∧ Answers 0x00 t ∧ image c it.driveByte t ∧ t.host = s.host ∧
        t.amb = { s.amb with search := some { it with remaining := cs } }) ∧
      (¬ fits → overflows)) ∧
    (s.cpu.c = 0x12 → (s.amb.search = none ∨ ∃ it, s.amb.search = some it ∧ it.remaining = []) →
      ∃ t, step s = .next t ∧ declines t ∧ t.host = s.host)

/-- R1302: a host name splits at its last dot, or is all base where it has none; a base of at most 8 and an extension of at most
3 bytes become 11 upper-case bytes padded with spaces, and no other name is listed. The FCB name of an upper-case name with no
space byte leads back to that name, unless the name ends in its dot; that of any other name with no space byte leads to the
upper-case name, and so not back to a name with a lower-case letter. -/
def Obligations.NamesTranslate : Prop :=
  ∀ base ext : List Byte, 0x2E ∉ ext →
    hostToCpm (base ++ 0x2E :: ext) =
      (if base.length ≤ 8 ∧ ext.length ≤ 3 then some (padUpper 8 base ++ padUpper 3 ext) else none) ∧
    (0x2E ∉ base →
      hostToCpm base = if base.length ≤ 8 then some (padUpper 8 base ++ padUpper 3 []) else none) ∧
    (base.length ≤ 8 → ext.length ≤ 3 → (∀ c ∈ base ++ ext, c ≠ 0x20) →
      (ext ≠ [] → cpmToHost (padUpper 8 base ++ padUpper 3 ext) = base.map upperByte ++ 0x2E :: ext.map upperByte) ∧
      cpmToHost (padUpper 8 base ++ padUpper 3 []) = base.map upperByte ∧
      ((∀ c ∈ base ++ ext, upperByte c = c) →
        (ext ≠ [] → cpmToHost (padUpper 8 base ++ padUpper 3 ext) = base ++ 0x2E :: ext) ∧
        cpmToHost (padUpper 8 base ++ padUpper 3 []) = base) ∧
      ((∃ c ∈ base ++ ext, upperByte c ≠ c) → ext ≠ [] →
        cpmToHost (padUpper 8 base ++ padUpper 3 ext) ≠ base ++ 0x2E :: ext))

/-! ## Launch (70_reset_and_hazards.md) -/

/-- R1601 to R1603, R128: a launch loads the image, then seeds memory, then the registers; the registers and bytes it does not
name keep the launch's own values; an image that would pass 0xFFFF sets STATUS alone (log 21), and a BIOS_BASE outside its
constraints is refused (log 20). -/
def Obligations.LaunchSeedsMemoryAndRegisters : Prop :=
  ∀ (s : State) (image : List Byte) (loadAt entry : Word),
    (paramsOk s.cfg = false → launchAt image loadAt entry s = .refused .biosBaseRefused) ∧
    (paramsOk s.cfg = true → 0x10000 < loadAt.toNat + image.length →
      launchAt image loadAt entry s = .next { s with status := .faulted (.imageTooLarge loadAt image.length) }) ∧
    (paramsOk s.cfg = true → loadAt.toNat + image.length ≤ 0x10000 → s.mem.wf = true →
      let base := s.cfg.biosBase
      let outside (a : Word) : Prop := a.toNat < base.toNat ∨ base.toNat + 51 ≤ a.toNat
      ∃ t, launchAt image loadAt entry s = .next t ∧
        t.cpu = { s.cpu with c := 0, sp := 0x0100, pc := entry, i := 0, r := 0, iff1 := false, iff2 := false, im := .im0,
                             halt := false, eiDelay := false } ∧
        t.amb = { dma := 0x0080, curDrive := 0, curUser := 0, search := none, handles := [] } ∧ t.status = .running ∧
        t.host = s.host ∧ t.cfg = s.cfg ∧
        (∀ k, k < 17 → t.peek (base + BitVec.ofNat 16 (3 * k)) = 0xC3 ∧
          t.peek16 (base + BitVec.ofNat 16 (3 * k) + 1) = base + BitVec.ofNat 16 (3 * k)) ∧
        (∀ p ∈ [((0 : Word), (0xC3 : Byte)), (1, lo8 (base + 3)), (2, hi8 (base + 3)), (3, 0x00), (4, 0x00), (5, 0xC3),
                (6, lo8 s.cfg.bdosVector), (7, hi8 s.cfg.bdosVector)],
          outside p.1 → t.peek p.1 = p.2) ∧
        (∀ a : Word, 8 ≤ a.toNat → outside a →
          t.peek a = if loadAt.toNat ≤ a.toNat then image.getD (a.toNat - loadAt.toNat) (s.peek a) else s.peek a))
end

