-- ==== Sys2Proof/Laws/Flags.lean ====
section
/-! SUPPORT. Lemmas of the flag byte, byte order and the refresh register. -/

namespace Sys2Proof.Machine

/-- A flag byte written from flags reads back as those flags. -/
@[simp] theorem Flags.ofByte_toByte (f : Flags) : Flags.ofByte f.toByte = f := by
  obtain ⟨s, z, y, h, x, pv, n, c⟩ := f
  cases s <;> cases z <;> cases y <;> cases h <;> cases x <;> cases pv <;> cases n <;> cases c <;> rfl

/-- The flag byte is no more than its eight flags: all of it is storage (R108). -/
@[simp] theorem Flags.toByte_ofByte (f : Byte) : (Flags.ofByte f).toByte = f := by
  revert f; decide

@[simp] theorem State.flags_setFlags (s : State) (f : Flags) : (s.setFlags f).flags = f := Flags.ofByte_toByte f

/-- `cat(h, l) = h * 256 + l` (R12). -/
theorem cat_toNat (h l : Byte) : (cat h l).toNat = h.toNat * 256 + l.toNat := by
  have hl := Nat.shiftLeft_add_eq_or_of_lt (i := 8) (b := l.toNat) l.isLt h.toNat
  rw [cat, BitVec.toNat_append, ← hl, Nat.shiftLeft_eq]

theorem hi8_toNat (v : Word) : (hi8 v).toNat = v.toNat / 256 := by
  have := v.isLt
  simp only [hi8, BitVec.extractLsb'_toNat, Nat.shiftRight_eq_div_pow]
  omega

theorem lo8_toNat (v : Word) : (lo8 v).toNat = v.toNat % 256 := by
  simp [lo8, BitVec.extractLsb'_toNat]

@[simp] theorem hi8_cat (h l : Byte) : hi8 (cat h l) = h := by
  apply BitVec.eq_of_toNat_eq
  have := l.isLt
  rw [hi8_toNat, cat_toNat]
  omega

@[simp] theorem lo8_cat (h l : Byte) : lo8 (cat h l) = l := by
  apply BitVec.eq_of_toNat_eq
  have := l.isLt
  rw [lo8_toNat, cat_toNat]
  omega

@[simp] theorem cat_hi8_lo8 (v : Word) : cat (hi8 v) (lo8 v) = v := by
  apply BitVec.eq_of_toNat_eq
  rw [cat_toNat, hi8_toNat, lo8_toNat]
  omega

end Sys2Proof.Machine
end

