-- ==== Sys2Proof/Laws/Host.lean ====
section
/-! SUPPORT. What each call of the host does, once: the answer it is scripted to give, and port accesses. -/

namespace Sys2Proof.Machine.HostEnv

/-! ## The script of `Err` answers (R1300, log 7) -/

theorem failing_nil {h : HostEnv} (e : h.fails = []) : h.failing = (false, h) := by simp [failing, e]

theorem failing_true {h : HostEnv} {more : List Bool} (e : h.fails = true :: more) :
    h.failing = (true, { h with fails := more }) := by simp [failing, e]

theorem conWrite_ok {h : HostEnv} (e : h.fails = []) (v : Byte) :
    h.conWrite v = (true, { h with stdout := h.stdout ++ [v] }) := by simp [conWrite, failing_nil e]

theorem conWrite_err {h : HostEnv} {more : List Bool} (e : h.fails = true :: more) (v : Byte) :
    h.conWrite v = (false, { h with fails := more }) := by simp [conWrite, failing_true e]

/-- The first failing write ends the output: the bytes before it are written, and nothing else is. -/
theorem conWriteAll_err (vs : List Byte) {h : HostEnv} {n : Nat} {more : List Bool} (hn : n < vs.length)
    (e : h.fails = List.replicate n false ++ true :: more) :
    conWriteAll vs h = (false, { h with stdout := h.stdout ++ vs.take n, fails := more }) := by
  induction vs generalizing h n with
  | nil => exact absurd hn (Nat.not_lt_zero n)
  | cons v vs ih =>
    cases n with
    | zero => simp [conWriteAll, conWrite_err (show h.fails = true :: more by simpa using e)]
    | succ n =>
      have e' : h.fails = false :: (List.replicate n false ++ true :: more) := by simpa [List.replicate_succ] using e
      have w : h.conWrite v =
          (true, { h with stdout := h.stdout ++ [v], fails := List.replicate n false ++ true :: more }) := by
        simp [conWrite, failing, e']
      simp [conWriteAll, w, ih (h := { h with stdout := h.stdout ++ [v], fails := List.replicate n false ++ true :: more })
        (Nat.lt_of_succ_lt_succ hn) rfl]

/-- Writes that all succeed append their bytes in order. -/
theorem conWriteAll_ok (vs : List Byte) {h : HostEnv} (e : h.fails = []) :
    conWriteAll vs h = (true, { h with stdout := h.stdout ++ vs }) := by
  induction vs generalizing h with
  | nil => simp [conWriteAll]
  | cons v vs ih => simp [conWriteAll, conWrite_ok e, ih (h := { h with stdout := h.stdout ++ [v] }) e]

theorem openFile_ok {h : HostEnv} {letter : Byte} {name : List Byte} (e : h.fails = [])
    (there : h.fileExists letter name = true) :
    openFile letter name h = (some h.nextFid, (h.opening letter name).2) := by
  simp [openFile, failing_nil e, there, opening]

theorem openFile_missing {h : HostEnv} {letter : Byte} {name : List Byte} (e : h.fails = [])
    (gone : h.fileExists letter name = false) : openFile letter name h = (none, h) := by
  simp [openFile, failing_nil e, gone]

theorem openFile_err {h : HostEnv} {more : List Bool} (e : h.fails = true :: more) (letter : Byte) (name : List Byte) :
    openFile letter name h = (none, { h with fails := more }) := by simp [openFile, failing_true e]

theorem createFile_err {h : HostEnv} {more : List Bool} (e : h.fails = true :: more) (letter : Byte) (name : List Byte) :
    createFile letter name h = (none, { h with fails := more }) := by simp [createFile, failing_true e]

theorem createFile_no_dir {h : HostEnv} {letter : Byte} (e : h.fails = []) (gone : h.dirExists letter = false)
    (name : List Byte) : createFile letter name h = (none, h) := by simp [createFile, failing_nil e, gone]

theorem closeFile_ok {h : HostEnv} (e : h.fails = []) (fid : Nat) :
    closeFile fid h = (true, { h with opened := h.opened.filter (fun o => o.fid != fid) }) := by
  simp [closeFile, failing_nil e]

theorem closeFile_err {h : HostEnv} {more : List Bool} (e : h.fails = true :: more) (fid : Nat) :
    closeFile fid h = (false, { h with fails := more }) := by simp [closeFile, failing_true e]

theorem readFile_err {h : HostEnv} {more : List Bool} (e : h.fails = true :: more) (fid pos : Nat) :
    readFile fid pos h = (none, { h with fails := more }) := by simp [readFile, failing_true e]

theorem writeFile_err {h : HostEnv} {more : List Bool} (e : h.fails = true :: more) (fid pos : Nat) (new : List Byte) :
    writeFile fid pos new h = (false, { h with fails := more }) := by simp [writeFile, failing_true e]

theorem listDir_ok {h : HostEnv} {letter : Byte} (e : h.fails = []) :
    listDir letter h = ((h.dir? letter).map fun d => d.files.map (·.name), h) := by simp [listDir, failing_nil e]

theorem listDir_err {h : HostEnv} {more : List Bool} (e : h.fails = true :: more) (letter : Byte) :
    listDir letter h = (none, { h with fails := more }) := by simp [listDir, failing_true e]

theorem removeFile_err {h : HostEnv} {more : List Bool} (e : h.fails = true :: more) (letter : Byte) (name : List Byte) :
    removeFile letter name h = (false, { h with fails := more }) := by simp [removeFile, failing_true e]

/-! ## Reads and writes of an open file, and of one that was deleted while open (D45, log 12) -/

theorem fileOf_live {h : HostEnv} {o : OpenFile} (l : o.live = true) : h.fileOf o = h.file? o.letter o.name := by
  simp [fileOf, l]

theorem readFile_ok {h : HostEnv} {fid : Nat} {o : OpenFile} {f : HostFile} (e : h.fails = [])
    (ho : h.openFile? fid = some o) (hf : h.fileOf o = some f) (pos : Nat) :
    readFile fid pos h = (some ((f.data.drop pos).take 128), h) := by simp [readFile, failing_nil e, ho, hf]

theorem readFile_deleted {h : HostEnv} {fid : Nat} {o : OpenFile} (e : h.fails = []) (ho : h.openFile? fid = some o)
    (hf : h.fileOf o = none) (pos : Nat) :
    readFile fid pos h = ((Config.staleRead h.draws).map (·.take 128), { h with draws := h.draws + 1 }) := by
  simp [readFile, failing_nil e, ho, hf]

theorem writeFile_deleted {h : HostEnv} {fid : Nat} {o : OpenFile} (e : h.fails = []) (ho : h.openFile? fid = some o)
    (hf : h.fileOf o = none) (pos : Nat) (new : List Byte) :
    writeFile fid pos new h = (!Config.staleWrite h.draws, { h with draws := h.draws + 1 }) := by
  simp [writeFile, failing_nil e, ho, hf]

/-! ## Ports (R1200, log 9) -/

/-- A port read changes the answers left, the log and the count of draws, and nothing else of the host. -/
theorem portRead_spec (port : Word) (h : HostEnv) :
    ∃ answers draws, (portRead port h).2 =
      { h with portIn := answers, draws := draws, portLog := h.portLog ++ [.read port (portRead port h).1] } := by
  unfold portRead
  split
  · exact ⟨_, _, rfl⟩
  · exact ⟨_, _, rfl⟩

/-- Answers for other ports are passed over. -/
theorem takeAnswer_skip {port : Word} {others : List PortAnswer} (ho : ∀ o ∈ others, answersPort port o = false)
    (as : List PortAnswer) :
    takeAnswer port (others ++ as) = ((takeAnswer port as).1, others ++ (takeAnswer port as).2) := by
  induction others with
  | nil => rfl
  | cons o os ih =>
    simp only [List.mem_cons, forall_eq_or_imp] at ho
    simp [takeAnswer, ho.1, ih ho.2]

end Sys2Proof.Machine.HostEnv
end

