-- ==== Sys2Proof/Laws/Memory.lean ====
section
/-! SUPPORT. The laws of memory (20_memory.md R201, R202): reads after writes, and the canonical form kept by every write. -/

namespace Sys2Proof.Machine.Memory

theorem wfFrom_mono {lo lo' : Nat} (h : lo' ≤ lo) : ∀ {m : Memory}, wfFrom lo m = true → wfFrom lo' m = true
  | [], _ => rfl
  | (k, v) :: m, hw => by
    simp only [wfFrom, Bool.and_eq_true, decide_eq_true_eq] at hw ⊢
    exact ⟨⟨⟨by omega, hw.1.1.2⟩, hw.1.2⟩, hw.2⟩

/-- Below its first address a canonical memory lists nothing. -/
theorem lookup_below {lo a : Nat} (h : a < lo) : ∀ {m : Memory}, wfFrom lo m = true → lookup m a = background
  | [], _ => rfl
  | (k, v) :: m, hw => by
    simp only [wfFrom, Bool.and_eq_true, decide_eq_true_eq] at hw
    have hk : ¬ k = a := by omega
    simp only [lookup, hk, if_false]
    exact lookup_below (lo := k + 1) (by omega) hw.2

theorem lookup_cell_append (a b : Nat) (v : Byte) (m : Memory) :
    lookup (cell a v ++ m) b = if a = b ∧ v ≠ background then v else lookup m b := by
  unfold cell
  by_cases hv : v = background <;> by_cases hb : a = b <;> simp [hv, hb, lookup]

/-- A write leaves every other address alone, canonical or not (R201). -/
theorem lookup_store_ne {a b : Nat} (h : b ≠ a) (v : Byte) : ∀ m : Memory, lookup (store m a v) b = lookup m b
  | [] => by
    have := lookup_cell_append a b v []
    simp only [List.append_nil] at this
    simp [store, this, Ne.symm h]
  | (k, w) :: m => by
    by_cases h1 : a < k
    · simp [store, h1, lookup_cell_append, Ne.symm h]
    · by_cases h2 : a = k
      · subst h2
        simp [store, lookup_cell_append, lookup, Ne.symm h]
      · simp only [store, h1, h2, if_false, lookup]
        rw [lookup_store_ne h v m]

/-- A read after a write to the same address gives the byte written (R201). -/
theorem lookup_store_eq {a lo : Nat} (v : Byte) : ∀ {m : Memory}, wfFrom lo m = true → lookup (store m a v) a = v
  | [], _ => by by_cases hv : v = background <;> simp [store, cell, hv, lookup]
  | (k, w) :: m, hw => by
    simp only [wfFrom, Bool.and_eq_true, decide_eq_true_eq] at hw
    by_cases h1 : a < k
    · have hk : ¬ k = a := by omega
      have hm := lookup_below (a := a) (lo := k + 1) (by omega) hw.2
      by_cases hv : v = background
      · simp [store, h1, lookup_cell_append, hv, lookup, hk, hm]
      · simp [store, h1, lookup_cell_append, hv]
    · by_cases h2 : a = k
      · subst h2
        have hm := lookup_below (a := a) (lo := a + 1) (by omega) hw.2
        by_cases hv : v = background
        · simp [store, lookup_cell_append, hv, hm]
        · simp [store, lookup_cell_append, hv]
      · simp only [store, h1, h2, if_false, lookup, Ne.symm h2]
        exact lookup_store_eq v hw.2

theorem wfFrom_cell_append {lo a : Nat} (v : Byte) {m : Memory} (hlo : lo ≤ a) (ha : a < 65536)
    (hm : wfFrom (a + 1) m = true) : wfFrom lo (cell a v ++ m) = true := by
  unfold cell
  by_cases hv : v = background
  · simpa [hv] using wfFrom_mono (by omega) hm
  · simp [hv, wfFrom, hlo, ha, hm]

theorem wfFrom_store {a lo : Nat} (v : Byte) (ha : a < 65536) (hlo : lo ≤ a) :
    ∀ {m : Memory}, wfFrom lo m = true → wfFrom lo (store m a v) = true
  | [], _ => by simpa [store] using wfFrom_cell_append (m := []) v hlo ha rfl
  | (k, w) :: m, hw => by
    have hw' := hw
    simp only [wfFrom, Bool.and_eq_true, decide_eq_true_eq] at hw
    by_cases h1 : a < k
    · simp only [store, h1, if_true]
      refine wfFrom_cell_append v hlo ha ?_
      simp only [wfFrom, Bool.and_eq_true, decide_eq_true_eq]
      exact ⟨⟨⟨by omega, hw.1.1.2⟩, hw.1.2⟩, hw.2⟩
    · by_cases h2 : a = k
      · subst h2
        simp only [store, h1, if_false, if_true]
        exact wfFrom_cell_append v hlo ha hw.2
      · simp only [store, h1, h2, if_false, wfFrom, Bool.and_eq_true, decide_eq_true_eq]
        exact ⟨⟨⟨hw.1.1.1, hw.1.1.2⟩, hw.1.2⟩, wfFrom_store v ha (by omega) hw.2⟩

/-! ## The laws by address -/

/-- "reading a after writing v to a returns v" (R201). -/
theorem read_write {m : Memory} (h : m.wf = true) (a : Word) (v : Byte) : (m.write a v).read a = v :=
  lookup_store_eq v h

/-- A byte write "changes no other byte" (R201). -/
theorem read_write_ne (m : Memory) {a b : Word} (v : Byte) (h : b ≠ a) : (m.write a v).read b = m.read b :=
  lookup_store_ne (fun e => h (BitVec.eq_of_toNat_eq e)) v m

/-- Every byte write keeps the canonical form. -/
theorem write_wf {m : Memory} (h : m.wf = true) (a : Word) (v : Byte) : (m.write a v).wf = true :=
  wfFrom_store v a.isLt (Nat.zero_le _) h

theorem write16_wf {m : Memory} (h : m.wf = true) (a v : Word) : (m.write16 a v).wf = true :=
  write_wf (write_wf h _ _) _ _

theorem read_write16_ne (m : Memory) {a b : Word} (v : Word) (h0 : b ≠ a) (h1 : b ≠ a + 1) :
    (m.write16 a v).read b = m.read b := by
  rw [write16, read_write_ne _ _ h1, read_write_ne _ _ h0]

theorem succ_ne (a : Word) : a ≠ a + 1 := by
  intro h
  have hn : a.toNat = (a.toNat + 1) % 65536 := congrArg BitVec.toNat h
  have := a.isLt
  omega

/-- A word read after it was written (R202). -/
theorem read16_write16 {m : Memory} (h : m.wf = true) (a v : Word) : (m.write16 a v).read16 a = v := by
  have h1 := write_wf h a (lo8 v)
  simp only [read16, write16]
  rw [read_write h1, read_write_ne _ _ (succ_ne a), read_write h, cat_hi8_lo8]

theorem writeBytes_wf {m : Memory} (h : m.wf = true) (vs : List Byte) (a : Word) : (m.writeBytes a vs).wf = true := by
  induction vs generalizing m a with
  | nil => exact h
  | cons v vs ih => exact ih (write_wf h a v) (a + 1)

theorem seedSlots_wf {m : Memory} (h : m.wf = true) (base : Word) (n i : Nat) : (m.seedSlots base n i).wf = true := by
  induction n generalizing m i with
  | zero => exact h
  | succ n ih => exact ih (write16_wf (write_wf h _ _) _ _) (i + 1)

/-- The seeding keeps the canonical form. -/
theorem seed_wf {m : Memory} (h : m.wf = true) (p : Config.Params) : (m.seed p).wf = true :=
  seedSlots_wf (write16_wf (write_wf (write_wf (write_wf (write16_wf (write_wf h _ _) _ _) _ _) _ _) _ _) _ _) _ _ _

end Sys2Proof.Machine.Memory
end

