-- ==== Sys2Proof/Laws/State.lean ====
section
/-! SUPPORT. One lemma per field per update of the state, so that no proof unfolds a record update. -/

namespace Sys2Proof.Machine.State

@[simp] theorem setA_a (s : State) (v : Byte) : (s.setA v).cpu.a = v := rfl
@[simp] theorem setA_f (s : State) (v : Byte) : (s.setA v).cpu.f = s.cpu.f := rfl
@[simp] theorem setA_b (s : State) (v : Byte) : (s.setA v).cpu.b = s.cpu.b := rfl
@[simp] theorem setA_c (s : State) (v : Byte) : (s.setA v).cpu.c = s.cpu.c := rfl
@[simp] theorem setA_d (s : State) (v : Byte) : (s.setA v).cpu.d = s.cpu.d := rfl
@[simp] theorem setA_e (s : State) (v : Byte) : (s.setA v).cpu.e = s.cpu.e := rfl
@[simp] theorem setA_h (s : State) (v : Byte) : (s.setA v).cpu.h = s.cpu.h := rfl
@[simp] theorem setA_l (s : State) (v : Byte) : (s.setA v).cpu.l = s.cpu.l := rfl
@[simp] theorem setA_alt (s : State) (v : Byte) : (s.setA v).cpu.alt = s.cpu.alt := rfl
@[simp] theorem setA_ix (s : State) (v : Byte) : (s.setA v).cpu.ix = s.cpu.ix := rfl
@[simp] theorem setA_iy (s : State) (v : Byte) : (s.setA v).cpu.iy = s.cpu.iy := rfl
@[simp] theorem setA_sp (s : State) (v : Byte) : (s.setA v).cpu.sp = s.cpu.sp := rfl
@[simp] theorem setA_pc (s : State) (v : Byte) : (s.setA v).cpu.pc = s.cpu.pc := rfl
@[simp] theorem setA_i (s : State) (v : Byte) : (s.setA v).cpu.i = s.cpu.i := rfl
@[simp] theorem setA_r (s : State) (v : Byte) : (s.setA v).cpu.r = s.cpu.r := rfl
@[simp] theorem setA_iff1 (s : State) (v : Byte) : (s.setA v).cpu.iff1 = s.cpu.iff1 := rfl
@[simp] theorem setA_iff2 (s : State) (v : Byte) : (s.setA v).cpu.iff2 = s.cpu.iff2 := rfl
@[simp] theorem setA_im (s : State) (v : Byte) : (s.setA v).cpu.im = s.cpu.im := rfl
@[simp] theorem setA_halt (s : State) (v : Byte) : (s.setA v).cpu.halt = s.cpu.halt := rfl
@[simp] theorem setA_eiDelay (s : State) (v : Byte) : (s.setA v).cpu.eiDelay = s.cpu.eiDelay := rfl
@[simp] theorem setA_mem (s : State) (v : Byte) : (s.setA v).mem = s.mem := rfl
@[simp] theorem setA_amb (s : State) (v : Byte) : (s.setA v).amb = s.amb := rfl
@[simp] theorem setA_status (s : State) (v : Byte) : (s.setA v).status = s.status := rfl
@[simp] theorem setA_host (s : State) (v : Byte) : (s.setA v).host = s.host := rfl
@[simp] theorem setA_cfg (s : State) (v : Byte) : (s.setA v).cfg = s.cfg := rfl

@[simp] theorem setB_a (s : State) (v : Byte) : (s.setB v).cpu.a = s.cpu.a := rfl
@[simp] theorem setB_f (s : State) (v : Byte) : (s.setB v).cpu.f = s.cpu.f := rfl
@[simp] theorem setB_b (s : State) (v : Byte) : (s.setB v).cpu.b = v := rfl
@[simp] theorem setB_c (s : State) (v : Byte) : (s.setB v).cpu.c = s.cpu.c := rfl
@[simp] theorem setB_d (s : State) (v : Byte) : (s.setB v).cpu.d = s.cpu.d := rfl
@[simp] theorem setB_e (s : State) (v : Byte) : (s.setB v).cpu.e = s.cpu.e := rfl
@[simp] theorem setB_h (s : State) (v : Byte) : (s.setB v).cpu.h = s.cpu.h := rfl
@[simp] theorem setB_l (s : State) (v : Byte) : (s.setB v).cpu.l = s.cpu.l := rfl
@[simp] theorem setB_alt (s : State) (v : Byte) : (s.setB v).cpu.alt = s.cpu.alt := rfl
@[simp] theorem setB_ix (s : State) (v : Byte) : (s.setB v).cpu.ix = s.cpu.ix := rfl
@[simp] theorem setB_iy (s : State) (v : Byte) : (s.setB v).cpu.iy = s.cpu.iy := rfl
@[simp] theorem setB_sp (s : State) (v : Byte) : (s.setB v).cpu.sp = s.cpu.sp := rfl
@[simp] theorem setB_pc (s : State) (v : Byte) : (s.setB v).cpu.pc = s.cpu.pc := rfl
@[simp] theorem setB_i (s : State) (v : Byte) : (s.setB v).cpu.i = s.cpu.i := rfl
@[simp] theorem setB_r (s : State) (v : Byte) : (s.setB v).cpu.r = s.cpu.r := rfl
@[simp] theorem setB_iff1 (s : State) (v : Byte) : (s.setB v).cpu.iff1 = s.cpu.iff1 := rfl
@[simp] theorem setB_iff2 (s : State) (v : Byte) : (s.setB v).cpu.iff2 = s.cpu.iff2 := rfl
@[simp] theorem setB_im (s : State) (v : Byte) : (s.setB v).cpu.im = s.cpu.im := rfl
@[simp] theorem setB_halt (s : State) (v : Byte) : (s.setB v).cpu.halt = s.cpu.halt := rfl
@[simp] theorem setB_eiDelay (s : State) (v : Byte) : (s.setB v).cpu.eiDelay = s.cpu.eiDelay := rfl
@[simp] theorem setB_mem (s : State) (v : Byte) : (s.setB v).mem = s.mem := rfl
@[simp] theorem setB_amb (s : State) (v : Byte) : (s.setB v).amb = s.amb := rfl
@[simp] theorem setB_status (s : State) (v : Byte) : (s.setB v).status = s.status := rfl
@[simp] theorem setB_host (s : State) (v : Byte) : (s.setB v).host = s.host := rfl
@[simp] theorem setB_cfg (s : State) (v : Byte) : (s.setB v).cfg = s.cfg := rfl

@[simp] theorem setBc_a (s : State) (v : Word) : (s.setBc v).cpu.a = s.cpu.a := rfl
@[simp] theorem setBc_f (s : State) (v : Word) : (s.setBc v).cpu.f = s.cpu.f := rfl
@[simp] theorem setBc_b (s : State) (v : Word) : (s.setBc v).cpu.b = hi8 v := rfl
@[simp] theorem setBc_c (s : State) (v : Word) : (s.setBc v).cpu.c = lo8 v := rfl
@[simp] theorem setBc_d (s : State) (v : Word) : (s.setBc v).cpu.d = s.cpu.d := rfl
@[simp] theorem setBc_e (s : State) (v : Word) : (s.setBc v).cpu.e = s.cpu.e := rfl
@[simp] theorem setBc_h (s : State) (v : Word) : (s.setBc v).cpu.h = s.cpu.h := rfl
@[simp] theorem setBc_l (s : State) (v : Word) : (s.setBc v).cpu.l = s.cpu.l := rfl
@[simp] theorem setBc_alt (s : State) (v : Word) : (s.setBc v).cpu.alt = s.cpu.alt := rfl
@[simp] theorem setBc_ix (s : State) (v : Word) : (s.setBc v).cpu.ix = s.cpu.ix := rfl
@[simp] theorem setBc_iy (s : State) (v : Word) : (s.setBc v).cpu.iy = s.cpu.iy := rfl
@[simp] theorem setBc_sp (s : State) (v : Word) : (s.setBc v).cpu.sp = s.cpu.sp := rfl
@[simp] theorem setBc_pc (s : State) (v : Word) : (s.setBc v).cpu.pc = s.cpu.pc := rfl
@[simp] theorem setBc_i (s : State) (v : Word) : (s.setBc v).cpu.i = s.cpu.i := rfl
@[simp] theorem setBc_r (s : State) (v : Word) : (s.setBc v).cpu.r = s.cpu.r := rfl
@[simp] theorem setBc_iff1 (s : State) (v : Word) : (s.setBc v).cpu.iff1 = s.cpu.iff1 := rfl
@[simp] theorem setBc_iff2 (s : State) (v : Word) : (s.setBc v).cpu.iff2 = s.cpu.iff2 := rfl
@[simp] theorem setBc_im (s : State) (v : Word) : (s.setBc v).cpu.im = s.cpu.im := rfl
@[simp] theorem setBc_halt (s : State) (v : Word) : (s.setBc v).cpu.halt = s.cpu.halt := rfl
@[simp] theorem setBc_eiDelay (s : State) (v : Word) : (s.setBc v).cpu.eiDelay = s.cpu.eiDelay := rfl
@[simp] theorem setBc_mem (s : State) (v : Word) : (s.setBc v).mem = s.mem := rfl
@[simp] theorem setBc_amb (s : State) (v : Word) : (s.setBc v).amb = s.amb := rfl
@[simp] theorem setBc_status (s : State) (v : Word) : (s.setBc v).status = s.status := rfl
@[simp] theorem setBc_host (s : State) (v : Word) : (s.setBc v).host = s.host := rfl
@[simp] theorem setBc_cfg (s : State) (v : Word) : (s.setBc v).cfg = s.cfg := rfl

@[simp] theorem setDe_a (s : State) (v : Word) : (s.setDe v).cpu.a = s.cpu.a := rfl
@[simp] theorem setDe_f (s : State) (v : Word) : (s.setDe v).cpu.f = s.cpu.f := rfl
@[simp] theorem setDe_b (s : State) (v : Word) : (s.setDe v).cpu.b = s.cpu.b := rfl
@[simp] theorem setDe_c (s : State) (v : Word) : (s.setDe v).cpu.c = s.cpu.c := rfl
@[simp] theorem setDe_d (s : State) (v : Word) : (s.setDe v).cpu.d = hi8 v := rfl
@[simp] theorem setDe_e (s : State) (v : Word) : (s.setDe v).cpu.e = lo8 v := rfl
@[simp] theorem setDe_h (s : State) (v : Word) : (s.setDe v).cpu.h = s.cpu.h := rfl
@[simp] theorem setDe_l (s : State) (v : Word) : (s.setDe v).cpu.l = s.cpu.l := rfl
@[simp] theorem setDe_alt (s : State) (v : Word) : (s.setDe v).cpu.alt = s.cpu.alt := rfl
@[simp] theorem setDe_ix (s : State) (v : Word) : (s.setDe v).cpu.ix = s.cpu.ix := rfl
@[simp] theorem setDe_iy (s : State) (v : Word) : (s.setDe v).cpu.iy = s.cpu.iy := rfl
@[simp] theorem setDe_sp (s : State) (v : Word) : (s.setDe v).cpu.sp = s.cpu.sp := rfl
@[simp] theorem setDe_pc (s : State) (v : Word) : (s.setDe v).cpu.pc = s.cpu.pc := rfl
@[simp] theorem setDe_i (s : State) (v : Word) : (s.setDe v).cpu.i = s.cpu.i := rfl
@[simp] theorem setDe_r (s : State) (v : Word) : (s.setDe v).cpu.r = s.cpu.r := rfl
@[simp] theorem setDe_iff1 (s : State) (v : Word) : (s.setDe v).cpu.iff1 = s.cpu.iff1 := rfl
@[simp] theorem setDe_iff2 (s : State) (v : Word) : (s.setDe v).cpu.iff2 = s.cpu.iff2 := rfl
@[simp] theorem setDe_im (s : State) (v : Word) : (s.setDe v).cpu.im = s.cpu.im := rfl
@[simp] theorem setDe_halt (s : State) (v : Word) : (s.setDe v).cpu.halt = s.cpu.halt := rfl
@[simp] theorem setDe_eiDelay (s : State) (v : Word) : (s.setDe v).cpu.eiDelay = s.cpu.eiDelay := rfl
@[simp] theorem setDe_mem (s : State) (v : Word) : (s.setDe v).mem = s.mem := rfl
@[simp] theorem setDe_amb (s : State) (v : Word) : (s.setDe v).amb = s.amb := rfl
@[simp] theorem setDe_status (s : State) (v : Word) : (s.setDe v).status = s.status := rfl
@[simp] theorem setDe_host (s : State) (v : Word) : (s.setDe v).host = s.host := rfl
@[simp] theorem setDe_cfg (s : State) (v : Word) : (s.setDe v).cfg = s.cfg := rfl

@[simp] theorem setHl_a (s : State) (v : Word) : (s.setHl v).cpu.a = s.cpu.a := rfl
@[simp] theorem setHl_f (s : State) (v : Word) : (s.setHl v).cpu.f = s.cpu.f := rfl
@[simp] theorem setHl_b (s : State) (v : Word) : (s.setHl v).cpu.b = s.cpu.b := rfl
@[simp] theorem setHl_c (s : State) (v : Word) : (s.setHl v).cpu.c = s.cpu.c := rfl
@[simp] theorem setHl_d (s : State) (v : Word) : (s.setHl v).cpu.d = s.cpu.d := rfl
@[simp] theorem setHl_e (s : State) (v : Word) : (s.setHl v).cpu.e = s.cpu.e := rfl
@[simp] theorem setHl_h (s : State) (v : Word) : (s.setHl v).cpu.h = hi8 v := rfl
@[simp] theorem setHl_l (s : State) (v : Word) : (s.setHl v).cpu.l = lo8 v := rfl
@[simp] theorem setHl_alt (s : State) (v : Word) : (s.setHl v).cpu.alt = s.cpu.alt := rfl
@[simp] theorem setHl_ix (s : State) (v : Word) : (s.setHl v).cpu.ix = s.cpu.ix := rfl
@[simp] theorem setHl_iy (s : State) (v : Word) : (s.setHl v).cpu.iy = s.cpu.iy := rfl
@[simp] theorem setHl_sp (s : State) (v : Word) : (s.setHl v).cpu.sp = s.cpu.sp := rfl
@[simp] theorem setHl_pc (s : State) (v : Word) : (s.setHl v).cpu.pc = s.cpu.pc := rfl
@[simp] theorem setHl_i (s : State) (v : Word) : (s.setHl v).cpu.i = s.cpu.i := rfl
@[simp] theorem setHl_r (s : State) (v : Word) : (s.setHl v).cpu.r = s.cpu.r := rfl
@[simp] theorem setHl_iff1 (s : State) (v : Word) : (s.setHl v).cpu.iff1 = s.cpu.iff1 := rfl
@[simp] theorem setHl_iff2 (s : State) (v : Word) : (s.setHl v).cpu.iff2 = s.cpu.iff2 := rfl
@[simp] theorem setHl_im (s : State) (v : Word) : (s.setHl v).cpu.im = s.cpu.im := rfl
@[simp] theorem setHl_halt (s : State) (v : Word) : (s.setHl v).cpu.halt = s.cpu.halt := rfl
@[simp] theorem setHl_eiDelay (s : State) (v : Word) : (s.setHl v).cpu.eiDelay = s.cpu.eiDelay := rfl
@[simp] theorem setHl_mem (s : State) (v : Word) : (s.setHl v).mem = s.mem := rfl
@[simp] theorem setHl_amb (s : State) (v : Word) : (s.setHl v).amb = s.amb := rfl
@[simp] theorem setHl_status (s : State) (v : Word) : (s.setHl v).status = s.status := rfl
@[simp] theorem setHl_host (s : State) (v : Word) : (s.setHl v).host = s.host := rfl
@[simp] theorem setHl_cfg (s : State) (v : Word) : (s.setHl v).cfg = s.cfg := rfl

@[simp] theorem setAf_a (s : State) (v : Word) : (s.setAf v).cpu.a = hi8 v := rfl
@[simp] theorem setAf_f (s : State) (v : Word) : (s.setAf v).cpu.f = lo8 v := rfl
@[simp] theorem setAf_b (s : State) (v : Word) : (s.setAf v).cpu.b = s.cpu.b := rfl
@[simp] theorem setAf_c (s : State) (v : Word) : (s.setAf v).cpu.c = s.cpu.c := rfl
@[simp] theorem setAf_d (s : State) (v : Word) : (s.setAf v).cpu.d = s.cpu.d := rfl
@[simp] theorem setAf_e (s : State) (v : Word) : (s.setAf v).cpu.e = s.cpu.e := rfl
@[simp] theorem setAf_h (s : State) (v : Word) : (s.setAf v).cpu.h = s.cpu.h := rfl
@[simp] theorem setAf_l (s : State) (v : Word) : (s.setAf v).cpu.l = s.cpu.l := rfl
@[simp] theorem setAf_alt (s : State) (v : Word) : (s.setAf v).cpu.alt = s.cpu.alt := rfl
@[simp] theorem setAf_ix (s : State) (v : Word) : (s.setAf v).cpu.ix = s.cpu.ix := rfl
@[simp] theorem setAf_iy (s : State) (v : Word) : (s.setAf v).cpu.iy = s.cpu.iy := rfl
@[simp] theorem setAf_sp (s : State) (v : Word) : (s.setAf v).cpu.sp = s.cpu.sp := rfl
@[simp] theorem setAf_pc (s : State) (v : Word) : (s.setAf v).cpu.pc = s.cpu.pc := rfl
@[simp] theorem setAf_i (s : State) (v : Word) : (s.setAf v).cpu.i = s.cpu.i := rfl
@[simp] theorem setAf_r (s : State) (v : Word) : (s.setAf v).cpu.r = s.cpu.r := rfl
@[simp] theorem setAf_iff1 (s : State) (v : Word) : (s.setAf v).cpu.iff1 = s.cpu.iff1 := rfl
@[simp] theorem setAf_iff2 (s : State) (v : Word) : (s.setAf v).cpu.iff2 = s.cpu.iff2 := rfl
@[simp] theorem setAf_im (s : State) (v : Word) : (s.setAf v).cpu.im = s.cpu.im := rfl
@[simp] theorem setAf_halt (s : State) (v : Word) : (s.setAf v).cpu.halt = s.cpu.halt := rfl
@[simp] theorem setAf_eiDelay (s : State) (v : Word) : (s.setAf v).cpu.eiDelay = s.cpu.eiDelay := rfl
@[simp] theorem setAf_mem (s : State) (v : Word) : (s.setAf v).mem = s.mem := rfl
@[simp] theorem setAf_amb (s : State) (v : Word) : (s.setAf v).amb = s.amb := rfl
@[simp] theorem setAf_status (s : State) (v : Word) : (s.setAf v).status = s.status := rfl
@[simp] theorem setAf_host (s : State) (v : Word) : (s.setAf v).host = s.host := rfl
@[simp] theorem setAf_cfg (s : State) (v : Word) : (s.setAf v).cfg = s.cfg := rfl

@[simp] theorem setSp_a (s : State) (v : Word) : (s.setSp v).cpu.a = s.cpu.a := rfl
@[simp] theorem setSp_f (s : State) (v : Word) : (s.setSp v).cpu.f = s.cpu.f := rfl
@[simp] theorem setSp_b (s : State) (v : Word) : (s.setSp v).cpu.b = s.cpu.b := rfl
@[simp] theorem setSp_c (s : State) (v : Word) : (s.setSp v).cpu.c = s.cpu.c := rfl
@[simp] theorem setSp_d (s : State) (v : Word) : (s.setSp v).cpu.d = s.cpu.d := rfl
@[simp] theorem setSp_e (s : State) (v : Word) : (s.setSp v).cpu.e = s.cpu.e := rfl
@[simp] theorem setSp_h (s : State) (v : Word) : (s.setSp v).cpu.h = s.cpu.h := rfl
@[simp] theorem setSp_l (s : State) (v : Word) : (s.setSp v).cpu.l = s.cpu.l := rfl
@[simp] theorem setSp_alt (s : State) (v : Word) : (s.setSp v).cpu.alt = s.cpu.alt := rfl
@[simp] theorem setSp_ix (s : State) (v : Word) : (s.setSp v).cpu.ix = s.cpu.ix := rfl
@[simp] theorem setSp_iy (s : State) (v : Word) : (s.setSp v).cpu.iy = s.cpu.iy := rfl
@[simp] theorem setSp_sp (s : State) (v : Word) : (s.setSp v).cpu.sp = v := rfl
@[simp] theorem setSp_pc (s : State) (v : Word) : (s.setSp v).cpu.pc = s.cpu.pc := rfl
@[simp] theorem setSp_i (s : State) (v : Word) : (s.setSp v).cpu.i = s.cpu.i := rfl
@[simp] theorem setSp_r (s : State) (v : Word) : (s.setSp v).cpu.r = s.cpu.r := rfl
@[simp] theorem setSp_iff1 (s : State) (v : Word) : (s.setSp v).cpu.iff1 = s.cpu.iff1 := rfl
@[simp] theorem setSp_iff2 (s : State) (v : Word) : (s.setSp v).cpu.iff2 = s.cpu.iff2 := rfl
@[simp] theorem setSp_im (s : State) (v : Word) : (s.setSp v).cpu.im = s.cpu.im := rfl
@[simp] theorem setSp_halt (s : State) (v : Word) : (s.setSp v).cpu.halt = s.cpu.halt := rfl
@[simp] theorem setSp_eiDelay (s : State) (v : Word) : (s.setSp v).cpu.eiDelay = s.cpu.eiDelay := rfl
@[simp] theorem setSp_mem (s : State) (v : Word) : (s.setSp v).mem = s.mem := rfl
@[simp] theorem setSp_amb (s : State) (v : Word) : (s.setSp v).amb = s.amb := rfl
@[simp] theorem setSp_status (s : State) (v : Word) : (s.setSp v).status = s.status := rfl
@[simp] theorem setSp_host (s : State) (v : Word) : (s.setSp v).host = s.host := rfl
@[simp] theorem setSp_cfg (s : State) (v : Word) : (s.setSp v).cfg = s.cfg := rfl

@[simp] theorem setPc_a (s : State) (v : Word) : (s.setPc v).cpu.a = s.cpu.a := rfl
@[simp] theorem setPc_f (s : State) (v : Word) : (s.setPc v).cpu.f = s.cpu.f := rfl
@[simp] theorem setPc_b (s : State) (v : Word) : (s.setPc v).cpu.b = s.cpu.b := rfl
@[simp] theorem setPc_c (s : State) (v : Word) : (s.setPc v).cpu.c = s.cpu.c := rfl
@[simp] theorem setPc_d (s : State) (v : Word) : (s.setPc v).cpu.d = s.cpu.d := rfl
@[simp] theorem setPc_e (s : State) (v : Word) : (s.setPc v).cpu.e = s.cpu.e := rfl
@[simp] theorem setPc_h (s : State) (v : Word) : (s.setPc v).cpu.h = s.cpu.h := rfl
@[simp] theorem setPc_l (s : State) (v : Word) : (s.setPc v).cpu.l = s.cpu.l := rfl
@[simp] theorem setPc_alt (s : State) (v : Word) : (s.setPc v).cpu.alt = s.cpu.alt := rfl
@[simp] theorem setPc_ix (s : State) (v : Word) : (s.setPc v).cpu.ix = s.cpu.ix := rfl
@[simp] theorem setPc_iy (s : State) (v : Word) : (s.setPc v).cpu.iy = s.cpu.iy := rfl
@[simp] theorem setPc_sp (s : State) (v : Word) : (s.setPc v).cpu.sp = s.cpu.sp := rfl
@[simp] theorem setPc_pc (s : State) (v : Word) : (s.setPc v).cpu.pc = v := rfl
@[simp] theorem setPc_i (s : State) (v : Word) : (s.setPc v).cpu.i = s.cpu.i := rfl
@[simp] theorem setPc_r (s : State) (v : Word) : (s.setPc v).cpu.r = s.cpu.r := rfl
@[simp] theorem setPc_iff1 (s : State) (v : Word) : (s.setPc v).cpu.iff1 = s.cpu.iff1 := rfl
@[simp] theorem setPc_iff2 (s : State) (v : Word) : (s.setPc v).cpu.iff2 = s.cpu.iff2 := rfl
@[simp] theorem setPc_im (s : State) (v : Word) : (s.setPc v).cpu.im = s.cpu.im := rfl
@[simp] theorem setPc_halt (s : State) (v : Word) : (s.setPc v).cpu.halt = s.cpu.halt := rfl
@[simp] theorem setPc_eiDelay (s : State) (v : Word) : (s.setPc v).cpu.eiDelay = s.cpu.eiDelay := rfl
@[simp] theorem setPc_mem (s : State) (v : Word) : (s.setPc v).mem = s.mem := rfl
@[simp] theorem setPc_amb (s : State) (v : Word) : (s.setPc v).amb = s.amb := rfl
@[simp] theorem setPc_status (s : State) (v : Word) : (s.setPc v).status = s.status := rfl
@[simp] theorem setPc_host (s : State) (v : Word) : (s.setPc v).host = s.host := rfl
@[simp] theorem setPc_cfg (s : State) (v : Word) : (s.setPc v).cfg = s.cfg := rfl

@[simp] theorem setF_a (s : State) (v : Byte) : (s.setF v).cpu.a = s.cpu.a := rfl
@[simp] theorem setF_f (s : State) (v : Byte) : (s.setF v).cpu.f = v := rfl
@[simp] theorem setF_b (s : State) (v : Byte) : (s.setF v).cpu.b = s.cpu.b := rfl
@[simp] theorem setF_c (s : State) (v : Byte) : (s.setF v).cpu.c = s.cpu.c := rfl
@[simp] theorem setF_d (s : State) (v : Byte) : (s.setF v).cpu.d = s.cpu.d := rfl
@[simp] theorem setF_e (s : State) (v : Byte) : (s.setF v).cpu.e = s.cpu.e := rfl
@[simp] theorem setF_h (s : State) (v : Byte) : (s.setF v).cpu.h = s.cpu.h := rfl
@[simp] theorem setF_l (s : State) (v : Byte) : (s.setF v).cpu.l = s.cpu.l := rfl
@[simp] theorem setF_alt (s : State) (v : Byte) : (s.setF v).cpu.alt = s.cpu.alt := rfl
@[simp] theorem setF_ix (s : State) (v : Byte) : (s.setF v).cpu.ix = s.cpu.ix := rfl
@[simp] theorem setF_iy (s : State) (v : Byte) : (s.setF v).cpu.iy = s.cpu.iy := rfl
@[simp] theorem setF_sp (s : State) (v : Byte) : (s.setF v).cpu.sp = s.cpu.sp := rfl
@[simp] theorem setF_pc (s : State) (v : Byte) : (s.setF v).cpu.pc = s.cpu.pc := rfl
@[simp] theorem setF_i (s : State) (v : Byte) : (s.setF v).cpu.i = s.cpu.i := rfl
@[simp] theorem setF_r (s : State) (v : Byte) : (s.setF v).cpu.r = s.cpu.r := rfl
@[simp] theorem setF_iff1 (s : State) (v : Byte) : (s.setF v).cpu.iff1 = s.cpu.iff1 := rfl
@[simp] theorem setF_iff2 (s : State) (v : Byte) : (s.setF v).cpu.iff2 = s.cpu.iff2 := rfl
@[simp] theorem setF_im (s : State) (v : Byte) : (s.setF v).cpu.im = s.cpu.im := rfl
@[simp] theorem setF_halt (s : State) (v : Byte) : (s.setF v).cpu.halt = s.cpu.halt := rfl
@[simp] theorem setF_eiDelay (s : State) (v : Byte) : (s.setF v).cpu.eiDelay = s.cpu.eiDelay := rfl
@[simp] theorem setF_mem (s : State) (v : Byte) : (s.setF v).mem = s.mem := rfl
@[simp] theorem setF_amb (s : State) (v : Byte) : (s.setF v).amb = s.amb := rfl
@[simp] theorem setF_status (s : State) (v : Byte) : (s.setF v).status = s.status := rfl
@[simp] theorem setF_host (s : State) (v : Byte) : (s.setF v).host = s.host := rfl
@[simp] theorem setF_cfg (s : State) (v : Byte) : (s.setF v).cfg = s.cfg := rfl

@[simp] theorem setFlags_a (s : State) (v : Flags) : (s.setFlags v).cpu.a = s.cpu.a := rfl
@[simp] theorem setFlags_f (s : State) (v : Flags) : (s.setFlags v).cpu.f = v.toByte := rfl
@[simp] theorem setFlags_b (s : State) (v : Flags) : (s.setFlags v).cpu.b = s.cpu.b := rfl
@[simp] theorem setFlags_c (s : State) (v : Flags) : (s.setFlags v).cpu.c = s.cpu.c := rfl
@[simp] theorem setFlags_d (s : State) (v : Flags) : (s.setFlags v).cpu.d = s.cpu.d := rfl
@[simp] theorem setFlags_e (s : State) (v : Flags) : (s.setFlags v).cpu.e = s.cpu.e := rfl
@[simp] theorem setFlags_h (s : State) (v : Flags) : (s.setFlags v).cpu.h = s.cpu.h := rfl
@[simp] theorem setFlags_l (s : State) (v : Flags) : (s.setFlags v).cpu.l = s.cpu.l := rfl
@[simp] theorem setFlags_alt (s : State) (v : Flags) : (s.setFlags v).cpu.alt = s.cpu.alt := rfl
@[simp] theorem setFlags_ix (s : State) (v : Flags) : (s.setFlags v).cpu.ix = s.cpu.ix := rfl
@[simp] theorem setFlags_iy (s : State) (v : Flags) : (s.setFlags v).cpu.iy = s.cpu.iy := rfl
@[simp] theorem setFlags_sp (s : State) (v : Flags) : (s.setFlags v).cpu.sp = s.cpu.sp := rfl
@[simp] theorem setFlags_pc (s : State) (v : Flags) : (s.setFlags v).cpu.pc = s.cpu.pc := rfl
@[simp] theorem setFlags_i (s : State) (v : Flags) : (s.setFlags v).cpu.i = s.cpu.i := rfl
@[simp] theorem setFlags_r (s : State) (v : Flags) : (s.setFlags v).cpu.r = s.cpu.r := rfl
@[simp] theorem setFlags_iff1 (s : State) (v : Flags) : (s.setFlags v).cpu.iff1 = s.cpu.iff1 := rfl
@[simp] theorem setFlags_iff2 (s : State) (v : Flags) : (s.setFlags v).cpu.iff2 = s.cpu.iff2 := rfl
@[simp] theorem setFlags_im (s : State) (v : Flags) : (s.setFlags v).cpu.im = s.cpu.im := rfl
@[simp] theorem setFlags_halt (s : State) (v : Flags) : (s.setFlags v).cpu.halt = s.cpu.halt := rfl
@[simp] theorem setFlags_eiDelay (s : State) (v : Flags) : (s.setFlags v).cpu.eiDelay = s.cpu.eiDelay := rfl
@[simp] theorem setFlags_mem (s : State) (v : Flags) : (s.setFlags v).mem = s.mem := rfl
@[simp] theorem setFlags_amb (s : State) (v : Flags) : (s.setFlags v).amb = s.amb := rfl
@[simp] theorem setFlags_status (s : State) (v : Flags) : (s.setFlags v).status = s.status := rfl
@[simp] theorem setFlags_host (s : State) (v : Flags) : (s.setFlags v).host = s.host := rfl
@[simp] theorem setFlags_cfg (s : State) (v : Flags) : (s.setFlags v).cfg = s.cfg := rfl

@[simp] theorem bump_a (s : State) (m : Nat) : (s.bump m).cpu.a = s.cpu.a := rfl
@[simp] theorem bump_f (s : State) (m : Nat) : (s.bump m).cpu.f = s.cpu.f := rfl
@[simp] theorem bump_b (s : State) (m : Nat) : (s.bump m).cpu.b = s.cpu.b := rfl
@[simp] theorem bump_c (s : State) (m : Nat) : (s.bump m).cpu.c = s.cpu.c := rfl
@[simp] theorem bump_d (s : State) (m : Nat) : (s.bump m).cpu.d = s.cpu.d := rfl
@[simp] theorem bump_e (s : State) (m : Nat) : (s.bump m).cpu.e = s.cpu.e := rfl
@[simp] theorem bump_h (s : State) (m : Nat) : (s.bump m).cpu.h = s.cpu.h := rfl
@[simp] theorem bump_l (s : State) (m : Nat) : (s.bump m).cpu.l = s.cpu.l := rfl
@[simp] theorem bump_alt (s : State) (m : Nat) : (s.bump m).cpu.alt = s.cpu.alt := rfl
@[simp] theorem bump_ix (s : State) (m : Nat) : (s.bump m).cpu.ix = s.cpu.ix := rfl
@[simp] theorem bump_iy (s : State) (m : Nat) : (s.bump m).cpu.iy = s.cpu.iy := rfl
@[simp] theorem bump_sp (s : State) (m : Nat) : (s.bump m).cpu.sp = s.cpu.sp := rfl
@[simp] theorem bump_pc (s : State) (m : Nat) : (s.bump m).cpu.pc = s.cpu.pc := rfl
@[simp] theorem bump_i (s : State) (m : Nat) : (s.bump m).cpu.i = s.cpu.i := rfl
@[simp] theorem bump_r (s : State) (m : Nat) : (s.bump m).cpu.r = bumpR m s.cpu.r := rfl
@[simp] theorem bump_iff1 (s : State) (m : Nat) : (s.bump m).cpu.iff1 = s.cpu.iff1 := rfl
@[simp] theorem bump_iff2 (s : State) (m : Nat) : (s.bump m).cpu.iff2 = s.cpu.iff2 := rfl
@[simp] theorem bump_im (s : State) (m : Nat) : (s.bump m).cpu.im = s.cpu.im := rfl
@[simp] theorem bump_halt (s : State) (m : Nat) : (s.bump m).cpu.halt = s.cpu.halt := rfl
@[simp] theorem bump_eiDelay (s : State) (m : Nat) : (s.bump m).cpu.eiDelay = s.cpu.eiDelay := rfl
@[simp] theorem bump_mem (s : State) (m : Nat) : (s.bump m).mem = s.mem := rfl
@[simp] theorem bump_amb (s : State) (m : Nat) : (s.bump m).amb = s.amb := rfl
@[simp] theorem bump_status (s : State) (m : Nat) : (s.bump m).status = s.status := rfl
@[simp] theorem bump_host (s : State) (m : Nat) : (s.bump m).host = s.host := rfl
@[simp] theorem bump_cfg (s : State) (m : Nat) : (s.bump m).cfg = s.cfg := rfl

@[simp] theorem setEiDelay_a (s : State) (b : Bool) : (s.setEiDelay b).cpu.a = s.cpu.a := rfl
@[simp] theorem setEiDelay_f (s : State) (b : Bool) : (s.setEiDelay b).cpu.f = s.cpu.f := rfl
@[simp] theorem setEiDelay_b (s : State) (b : Bool) : (s.setEiDelay b).cpu.b = s.cpu.b := rfl
@[simp] theorem setEiDelay_c (s : State) (b : Bool) : (s.setEiDelay b).cpu.c = s.cpu.c := rfl
@[simp] theorem setEiDelay_d (s : State) (b : Bool) : (s.setEiDelay b).cpu.d = s.cpu.d := rfl
@[simp] theorem setEiDelay_e (s : State) (b : Bool) : (s.setEiDelay b).cpu.e = s.cpu.e := rfl
@[simp] theorem setEiDelay_h (s : State) (b : Bool) : (s.setEiDelay b).cpu.h = s.cpu.h := rfl
@[simp] theorem setEiDelay_l (s : State) (b : Bool) : (s.setEiDelay b).cpu.l = s.cpu.l := rfl
@[simp] theorem setEiDelay_alt (s : State) (b : Bool) : (s.setEiDelay b).cpu.alt = s.cpu.alt := rfl
@[simp] theorem setEiDelay_ix (s : State) (b : Bool) : (s.setEiDelay b).cpu.ix = s.cpu.ix := rfl
@[simp] theorem setEiDelay_iy (s : State) (b : Bool) : (s.setEiDelay b).cpu.iy = s.cpu.iy := rfl
@[simp] theorem setEiDelay_sp (s : State) (b : Bool) : (s.setEiDelay b).cpu.sp = s.cpu.sp := rfl
@[simp] theorem setEiDelay_pc (s : State) (b : Bool) : (s.setEiDelay b).cpu.pc = s.cpu.pc := rfl
@[simp] theorem setEiDelay_i (s : State) (b : Bool) : (s.setEiDelay b).cpu.i = s.cpu.i := rfl
@[simp] theorem setEiDelay_r (s : State) (b : Bool) : (s.setEiDelay b).cpu.r = s.cpu.r := rfl
@[simp] theorem setEiDelay_iff1 (s : State) (b : Bool) : (s.setEiDelay b).cpu.iff1 = s.cpu.iff1 := rfl
@[simp] theorem setEiDelay_iff2 (s : State) (b : Bool) : (s.setEiDelay b).cpu.iff2 = s.cpu.iff2 := rfl
@[simp] theorem setEiDelay_im (s : State) (b : Bool) : (s.setEiDelay b).cpu.im = s.cpu.im := rfl
@[simp] theorem setEiDelay_halt (s : State) (b : Bool) : (s.setEiDelay b).cpu.halt = s.cpu.halt := rfl
@[simp] theorem setEiDelay_eiDelay (s : State) (b : Bool) : (s.setEiDelay b).cpu.eiDelay = b := rfl
@[simp] theorem setEiDelay_mem (s : State) (b : Bool) : (s.setEiDelay b).mem = s.mem := rfl
@[simp] theorem setEiDelay_amb (s : State) (b : Bool) : (s.setEiDelay b).amb = s.amb := rfl
@[simp] theorem setEiDelay_status (s : State) (b : Bool) : (s.setEiDelay b).status = s.status := rfl
@[simp] theorem setEiDelay_host (s : State) (b : Bool) : (s.setEiDelay b).host = s.host := rfl
@[simp] theorem setEiDelay_cfg (s : State) (b : Bool) : (s.setEiDelay b).cfg = s.cfg := rfl

@[simp] theorem setHalt_a (s : State) (b : Bool) : (s.setHalt b).cpu.a = s.cpu.a := rfl
@[simp] theorem setHalt_f (s : State) (b : Bool) : (s.setHalt b).cpu.f = s.cpu.f := rfl
@[simp] theorem setHalt_b (s : State) (b : Bool) : (s.setHalt b).cpu.b = s.cpu.b := rfl
@[simp] theorem setHalt_c (s : State) (b : Bool) : (s.setHalt b).cpu.c = s.cpu.c := rfl
@[simp] theorem setHalt_d (s : State) (b : Bool) : (s.setHalt b).cpu.d = s.cpu.d := rfl
@[simp] theorem setHalt_e (s : State) (b : Bool) : (s.setHalt b).cpu.e = s.cpu.e := rfl
@[simp] theorem setHalt_h (s : State) (b : Bool) : (s.setHalt b).cpu.h = s.cpu.h := rfl
@[simp] theorem setHalt_l (s : State) (b : Bool) : (s.setHalt b).cpu.l = s.cpu.l := rfl
@[simp] theorem setHalt_alt (s : State) (b : Bool) : (s.setHalt b).cpu.alt = s.cpu.alt := rfl
@[simp] theorem setHalt_ix (s : State) (b : Bool) : (s.setHalt b).cpu.ix = s.cpu.ix := rfl
@[simp] theorem setHalt_iy (s : State) (b : Bool) : (s.setHalt b).cpu.iy = s.cpu.iy := rfl
@[simp] theorem setHalt_sp (s : State) (b : Bool) : (s.setHalt b).cpu.sp = s.cpu.sp := rfl
@[simp] theorem setHalt_pc (s : State) (b : Bool) : (s.setHalt b).cpu.pc = s.cpu.pc := rfl
@[simp] theorem setHalt_i (s : State) (b : Bool) : (s.setHalt b).cpu.i = s.cpu.i := rfl
@[simp] theorem setHalt_r (s : State) (b : Bool) : (s.setHalt b).cpu.r = s.cpu.r := rfl
@[simp] theorem setHalt_iff1 (s : State) (b : Bool) : (s.setHalt b).cpu.iff1 = s.cpu.iff1 := rfl
@[simp] theorem setHalt_iff2 (s : State) (b : Bool) : (s.setHalt b).cpu.iff2 = s.cpu.iff2 := rfl
@[simp] theorem setHalt_im (s : State) (b : Bool) : (s.setHalt b).cpu.im = s.cpu.im := rfl
@[simp] theorem setHalt_halt (s : State) (b : Bool) : (s.setHalt b).cpu.halt = b := rfl
@[simp] theorem setHalt_eiDelay (s : State) (b : Bool) : (s.setHalt b).cpu.eiDelay = s.cpu.eiDelay := rfl
@[simp] theorem setHalt_mem (s : State) (b : Bool) : (s.setHalt b).mem = s.mem := rfl
@[simp] theorem setHalt_amb (s : State) (b : Bool) : (s.setHalt b).amb = s.amb := rfl
@[simp] theorem setHalt_status (s : State) (b : Bool) : (s.setHalt b).status = s.status := rfl
@[simp] theorem setHalt_host (s : State) (b : Bool) : (s.setHalt b).host = s.host := rfl
@[simp] theorem setHalt_cfg (s : State) (b : Bool) : (s.setHalt b).cfg = s.cfg := rfl

@[simp] theorem setIff_a (s : State) (b1 b2 : Bool) : (s.setIff b1 b2).cpu.a = s.cpu.a := rfl
@[simp] theorem setIff_f (s : State) (b1 b2 : Bool) : (s.setIff b1 b2).cpu.f = s.cpu.f := rfl
@[simp] theorem setIff_b (s : State) (b1 b2 : Bool) : (s.setIff b1 b2).cpu.b = s.cpu.b := rfl
@[simp] theorem setIff_c (s : State) (b1 b2 : Bool) : (s.setIff b1 b2).cpu.c = s.cpu.c := rfl
@[simp] theorem setIff_d (s : State) (b1 b2 : Bool) : (s.setIff b1 b2).cpu.d = s.cpu.d := rfl
@[simp] theorem setIff_e (s : State) (b1 b2 : Bool) : (s.setIff b1 b2).cpu.e = s.cpu.e := rfl
@[simp] theorem setIff_h (s : State) (b1 b2 : Bool) : (s.setIff b1 b2).cpu.h = s.cpu.h := rfl
@[simp] theorem setIff_l (s : State) (b1 b2 : Bool) : (s.setIff b1 b2).cpu.l = s.cpu.l := rfl
@[simp] theorem setIff_alt (s : State) (b1 b2 : Bool) : (s.setIff b1 b2).cpu.alt = s.cpu.alt := rfl
@[simp] theorem setIff_ix (s : State) (b1 b2 : Bool) : (s.setIff b1 b2).cpu.ix = s.cpu.ix := rfl
@[simp] theorem setIff_iy (s : State) (b1 b2 : Bool) : (s.setIff b1 b2).cpu.iy = s.cpu.iy := rfl
@[simp] theorem setIff_sp (s : State) (b1 b2 : Bool) : (s.setIff b1 b2).cpu.sp = s.cpu.sp := rfl
@[simp] theorem setIff_pc (s : State) (b1 b2 : Bool) : (s.setIff b1 b2).cpu.pc = s.cpu.pc := rfl
@[simp] theorem setIff_i (s : State) (b1 b2 : Bool) : (s.setIff b1 b2).cpu.i = s.cpu.i := rfl
@[simp] theorem setIff_r (s : State) (b1 b2 : Bool) : (s.setIff b1 b2).cpu.r = s.cpu.r := rfl
@[simp] theorem setIff_iff1 (s : State) (b1 b2 : Bool) : (s.setIff b1 b2).cpu.iff1 = b1 := rfl
@[simp] theorem setIff_iff2 (s : State) (b1 b2 : Bool) : (s.setIff b1 b2).cpu.iff2 = b2 := rfl
@[simp] theorem setIff_im (s : State) (b1 b2 : Bool) : (s.setIff b1 b2).cpu.im = s.cpu.im := rfl
@[simp] theorem setIff_halt (s : State) (b1 b2 : Bool) : (s.setIff b1 b2).cpu.halt = s.cpu.halt := rfl
@[simp] theorem setIff_eiDelay (s : State) (b1 b2 : Bool) : (s.setIff b1 b2).cpu.eiDelay = s.cpu.eiDelay := rfl
@[simp] theorem setIff_mem (s : State) (b1 b2 : Bool) : (s.setIff b1 b2).mem = s.mem := rfl
@[simp] theorem setIff_amb (s : State) (b1 b2 : Bool) : (s.setIff b1 b2).amb = s.amb := rfl
@[simp] theorem setIff_status (s : State) (b1 b2 : Bool) : (s.setIff b1 b2).status = s.status := rfl
@[simp] theorem setIff_host (s : State) (b1 b2 : Bool) : (s.setIff b1 b2).host = s.host := rfl
@[simp] theorem setIff_cfg (s : State) (b1 b2 : Bool) : (s.setIff b1 b2).cfg = s.cfg := rfl

@[simp] theorem setIm_a (s : State) (m : IntMode) : (s.setIm m).cpu.a = s.cpu.a := rfl
@[simp] theorem setIm_f (s : State) (m : IntMode) : (s.setIm m).cpu.f = s.cpu.f := rfl
@[simp] theorem setIm_b (s : State) (m : IntMode) : (s.setIm m).cpu.b = s.cpu.b := rfl
@[simp] theorem setIm_c (s : State) (m : IntMode) : (s.setIm m).cpu.c = s.cpu.c := rfl
@[simp] theorem setIm_d (s : State) (m : IntMode) : (s.setIm m).cpu.d = s.cpu.d := rfl
@[simp] theorem setIm_e (s : State) (m : IntMode) : (s.setIm m).cpu.e = s.cpu.e := rfl
@[simp] theorem setIm_h (s : State) (m : IntMode) : (s.setIm m).cpu.h = s.cpu.h := rfl
@[simp] theorem setIm_l (s : State) (m : IntMode) : (s.setIm m).cpu.l = s.cpu.l := rfl
@[simp] theorem setIm_alt (s : State) (m : IntMode) : (s.setIm m).cpu.alt = s.cpu.alt := rfl
@[simp] theorem setIm_ix (s : State) (m : IntMode) : (s.setIm m).cpu.ix = s.cpu.ix := rfl
@[simp] theorem setIm_iy (s : State) (m : IntMode) : (s.setIm m).cpu.iy = s.cpu.iy := rfl
@[simp] theorem setIm_sp (s : State) (m : IntMode) : (s.setIm m).cpu.sp = s.cpu.sp := rfl
@[simp] theorem setIm_pc (s : State) (m : IntMode) : (s.setIm m).cpu.pc = s.cpu.pc := rfl
@[simp] theorem setIm_i (s : State) (m : IntMode) : (s.setIm m).cpu.i = s.cpu.i := rfl
@[simp] theorem setIm_r (s : State) (m : IntMode) : (s.setIm m).cpu.r = s.cpu.r := rfl
@[simp] theorem setIm_iff1 (s : State) (m : IntMode) : (s.setIm m).cpu.iff1 = s.cpu.iff1 := rfl
@[simp] theorem setIm_iff2 (s : State) (m : IntMode) : (s.setIm m).cpu.iff2 = s.cpu.iff2 := rfl
@[simp] theorem setIm_im (s : State) (m : IntMode) : (s.setIm m).cpu.im = m := rfl
@[simp] theorem setIm_halt (s : State) (m : IntMode) : (s.setIm m).cpu.halt = s.cpu.halt := rfl
@[simp] theorem setIm_eiDelay (s : State) (m : IntMode) : (s.setIm m).cpu.eiDelay = s.cpu.eiDelay := rfl
@[simp] theorem setIm_mem (s : State) (m : IntMode) : (s.setIm m).mem = s.mem := rfl
@[simp] theorem setIm_amb (s : State) (m : IntMode) : (s.setIm m).amb = s.amb := rfl
@[simp] theorem setIm_status (s : State) (m : IntMode) : (s.setIm m).status = s.status := rfl
@[simp] theorem setIm_host (s : State) (m : IntMode) : (s.setIm m).host = s.host := rfl
@[simp] theorem setIm_cfg (s : State) (m : IntMode) : (s.setIm m).cfg = s.cfg := rfl

@[simp] theorem opening_a (s : State) (fm : Format) : (s.opening fm).cpu.a = s.cpu.a := rfl
@[simp] theorem opening_f (s : State) (fm : Format) : (s.opening fm).cpu.f = s.cpu.f := rfl
@[simp] theorem opening_b (s : State) (fm : Format) : (s.opening fm).cpu.b = s.cpu.b := rfl
@[simp] theorem opening_c (s : State) (fm : Format) : (s.opening fm).cpu.c = s.cpu.c := rfl
@[simp] theorem opening_d (s : State) (fm : Format) : (s.opening fm).cpu.d = s.cpu.d := rfl
@[simp] theorem opening_e (s : State) (fm : Format) : (s.opening fm).cpu.e = s.cpu.e := rfl
@[simp] theorem opening_h (s : State) (fm : Format) : (s.opening fm).cpu.h = s.cpu.h := rfl
@[simp] theorem opening_l (s : State) (fm : Format) : (s.opening fm).cpu.l = s.cpu.l := rfl
@[simp] theorem opening_alt (s : State) (fm : Format) : (s.opening fm).cpu.alt = s.cpu.alt := rfl
@[simp] theorem opening_ix (s : State) (fm : Format) : (s.opening fm).cpu.ix = s.cpu.ix := rfl
@[simp] theorem opening_iy (s : State) (fm : Format) : (s.opening fm).cpu.iy = s.cpu.iy := rfl
@[simp] theorem opening_sp (s : State) (fm : Format) : (s.opening fm).cpu.sp = s.cpu.sp := rfl
@[simp] theorem opening_pc (s : State) (fm : Format) : (s.opening fm).cpu.pc = s.cpu.pc := rfl
@[simp] theorem opening_i (s : State) (fm : Format) : (s.opening fm).cpu.i = s.cpu.i := rfl
@[simp] theorem opening_r (s : State) (fm : Format) : (s.opening fm).cpu.r = bumpR fm.m1 s.cpu.r := rfl
@[simp] theorem opening_iff1 (s : State) (fm : Format) : (s.opening fm).cpu.iff1 = s.cpu.iff1 := rfl
@[simp] theorem opening_iff2 (s : State) (fm : Format) : (s.opening fm).cpu.iff2 = s.cpu.iff2 := rfl
@[simp] theorem opening_im (s : State) (fm : Format) : (s.opening fm).cpu.im = s.cpu.im := rfl
@[simp] theorem opening_halt (s : State) (fm : Format) : (s.opening fm).cpu.halt = s.cpu.halt := rfl
@[simp] theorem opening_eiDelay (s : State) (fm : Format) : (s.opening fm).cpu.eiDelay = false := rfl
@[simp] theorem opening_mem (s : State) (fm : Format) : (s.opening fm).mem = s.mem := rfl
@[simp] theorem opening_amb (s : State) (fm : Format) : (s.opening fm).amb = s.amb := rfl
@[simp] theorem opening_status (s : State) (fm : Format) : (s.opening fm).status = s.status := rfl
@[simp] theorem opening_host (s : State) (fm : Format) : (s.opening fm).host = s.host := rfl
@[simp] theorem opening_cfg (s : State) (fm : Format) : (s.opening fm).cfg = s.cfg := rfl

@[simp] theorem closing_a (s : State) (fm : Format) : (s.closing fm).cpu.a = s.cpu.a := rfl
@[simp] theorem closing_f (s : State) (fm : Format) : (s.closing fm).cpu.f = s.cpu.f := rfl
@[simp] theorem closing_b (s : State) (fm : Format) : (s.closing fm).cpu.b = s.cpu.b := rfl
@[simp] theorem closing_c (s : State) (fm : Format) : (s.closing fm).cpu.c = s.cpu.c := rfl
@[simp] theorem closing_d (s : State) (fm : Format) : (s.closing fm).cpu.d = s.cpu.d := rfl
@[simp] theorem closing_e (s : State) (fm : Format) : (s.closing fm).cpu.e = s.cpu.e := rfl
@[simp] theorem closing_h (s : State) (fm : Format) : (s.closing fm).cpu.h = s.cpu.h := rfl
@[simp] theorem closing_l (s : State) (fm : Format) : (s.closing fm).cpu.l = s.cpu.l := rfl
@[simp] theorem closing_alt (s : State) (fm : Format) : (s.closing fm).cpu.alt = s.cpu.alt := rfl
@[simp] theorem closing_ix (s : State) (fm : Format) : (s.closing fm).cpu.ix = s.cpu.ix := rfl
@[simp] theorem closing_iy (s : State) (fm : Format) : (s.closing fm).cpu.iy = s.cpu.iy := rfl
@[simp] theorem closing_sp (s : State) (fm : Format) : (s.closing fm).cpu.sp = s.cpu.sp := rfl
@[simp] theorem closing_pc (s : State) (fm : Format) : (s.closing fm).cpu.pc = s.nextPc fm := rfl
@[simp] theorem closing_i (s : State) (fm : Format) : (s.closing fm).cpu.i = s.cpu.i := rfl
@[simp] theorem closing_r (s : State) (fm : Format) : (s.closing fm).cpu.r = s.cpu.r := rfl
@[simp] theorem closing_iff1 (s : State) (fm : Format) : (s.closing fm).cpu.iff1 = s.cpu.iff1 := rfl
@[simp] theorem closing_iff2 (s : State) (fm : Format) : (s.closing fm).cpu.iff2 = s.cpu.iff2 := rfl
@[simp] theorem closing_im (s : State) (fm : Format) : (s.closing fm).cpu.im = s.cpu.im := rfl
@[simp] theorem closing_halt (s : State) (fm : Format) : (s.closing fm).cpu.halt = s.cpu.halt := rfl
@[simp] theorem closing_eiDelay (s : State) (fm : Format) : (s.closing fm).cpu.eiDelay = s.cpu.eiDelay := rfl
@[simp] theorem closing_mem (s : State) (fm : Format) : (s.closing fm).mem = s.mem := rfl
@[simp] theorem closing_amb (s : State) (fm : Format) : (s.closing fm).amb = s.amb := rfl
@[simp] theorem closing_status (s : State) (fm : Format) : (s.closing fm).status = s.status := rfl
@[simp] theorem closing_host (s : State) (fm : Format) : (s.closing fm).host = s.host := rfl
@[simp] theorem closing_cfg (s : State) (fm : Format) : (s.closing fm).cfg = s.cfg := rfl

@[simp] theorem dropWord_a (s : State) : (s.dropWord).cpu.a = s.cpu.a := rfl
@[simp] theorem dropWord_f (s : State) : (s.dropWord).cpu.f = s.cpu.f := rfl
@[simp] theorem dropWord_b (s : State) : (s.dropWord).cpu.b = s.cpu.b := rfl
@[simp] theorem dropWord_c (s : State) : (s.dropWord).cpu.c = s.cpu.c := rfl
@[simp] theorem dropWord_d (s : State) : (s.dropWord).cpu.d = s.cpu.d := rfl
@[simp] theorem dropWord_e (s : State) : (s.dropWord).cpu.e = s.cpu.e := rfl
@[simp] theorem dropWord_h (s : State) : (s.dropWord).cpu.h = s.cpu.h := rfl
@[simp] theorem dropWord_l (s : State) : (s.dropWord).cpu.l = s.cpu.l := rfl
@[simp] theorem dropWord_alt (s : State) : (s.dropWord).cpu.alt = s.cpu.alt := rfl
@[simp] theorem dropWord_ix (s : State) : (s.dropWord).cpu.ix = s.cpu.ix := rfl
@[simp] theorem dropWord_iy (s : State) : (s.dropWord).cpu.iy = s.cpu.iy := rfl
@[simp] theorem dropWord_sp (s : State) : (s.dropWord).cpu.sp = s.cpu.sp + 2 := rfl
@[simp] theorem dropWord_pc (s : State) : (s.dropWord).cpu.pc = s.cpu.pc := rfl
@[simp] theorem dropWord_i (s : State) : (s.dropWord).cpu.i = s.cpu.i := rfl
@[simp] theorem dropWord_r (s : State) : (s.dropWord).cpu.r = s.cpu.r := rfl
@[simp] theorem dropWord_iff1 (s : State) : (s.dropWord).cpu.iff1 = s.cpu.iff1 := rfl
@[simp] theorem dropWord_iff2 (s : State) : (s.dropWord).cpu.iff2 = s.cpu.iff2 := rfl
@[simp] theorem dropWord_im (s : State) : (s.dropWord).cpu.im = s.cpu.im := rfl
@[simp] theorem dropWord_halt (s : State) : (s.dropWord).cpu.halt = s.cpu.halt := rfl
@[simp] theorem dropWord_eiDelay (s : State) : (s.dropWord).cpu.eiDelay = s.cpu.eiDelay := rfl
@[simp] theorem dropWord_mem (s : State) : (s.dropWord).mem = s.mem := rfl
@[simp] theorem dropWord_amb (s : State) : (s.dropWord).amb = s.amb := rfl
@[simp] theorem dropWord_status (s : State) : (s.dropWord).status = s.status := rfl
@[simp] theorem dropWord_host (s : State) : (s.dropWord).host = s.host := rfl
@[simp] theorem dropWord_cfg (s : State) : (s.dropWord).cfg = s.cfg := rfl

@[simp] theorem popPc_a (s : State) : (s.popPc).cpu.a = s.cpu.a := rfl
@[simp] theorem popPc_f (s : State) : (s.popPc).cpu.f = s.cpu.f := rfl
@[simp] theorem popPc_b (s : State) : (s.popPc).cpu.b = s.cpu.b := rfl
@[simp] theorem popPc_c (s : State) : (s.popPc).cpu.c = s.cpu.c := rfl
@[simp] theorem popPc_d (s : State) : (s.popPc).cpu.d = s.cpu.d := rfl
@[simp] theorem popPc_e (s : State) : (s.popPc).cpu.e = s.cpu.e := rfl
@[simp] theorem popPc_h (s : State) : (s.popPc).cpu.h = s.cpu.h := rfl
@[simp] theorem popPc_l (s : State) : (s.popPc).cpu.l = s.cpu.l := rfl
@[simp] theorem popPc_alt (s : State) : (s.popPc).cpu.alt = s.cpu.alt := rfl
@[simp] theorem popPc_ix (s : State) : (s.popPc).cpu.ix = s.cpu.ix := rfl
@[simp] theorem popPc_iy (s : State) : (s.popPc).cpu.iy = s.cpu.iy := rfl
@[simp] theorem popPc_sp (s : State) : (s.popPc).cpu.sp = s.cpu.sp + 2 := rfl
@[simp] theorem popPc_pc (s : State) : (s.popPc).cpu.pc = s.top16 := rfl
@[simp] theorem popPc_i (s : State) : (s.popPc).cpu.i = s.cpu.i := rfl
@[simp] theorem popPc_r (s : State) : (s.popPc).cpu.r = s.cpu.r := rfl
@[simp] theorem popPc_iff1 (s : State) : (s.popPc).cpu.iff1 = s.cpu.iff1 := rfl
@[simp] theorem popPc_iff2 (s : State) : (s.popPc).cpu.iff2 = s.cpu.iff2 := rfl
@[simp] theorem popPc_im (s : State) : (s.popPc).cpu.im = s.cpu.im := rfl
@[simp] theorem popPc_halt (s : State) : (s.popPc).cpu.halt = s.cpu.halt := rfl
@[simp] theorem popPc_eiDelay (s : State) : (s.popPc).cpu.eiDelay = s.cpu.eiDelay := rfl
@[simp] theorem popPc_mem (s : State) : (s.popPc).mem = s.mem := rfl
@[simp] theorem popPc_amb (s : State) : (s.popPc).amb = s.amb := rfl
@[simp] theorem popPc_status (s : State) : (s.popPc).status = s.status := rfl
@[simp] theorem popPc_host (s : State) : (s.popPc).host = s.host := rfl
@[simp] theorem popPc_cfg (s : State) : (s.popPc).cfg = s.cfg := rfl

@[simp] theorem result8_a (s : State) (v : Byte) : (s.result8 v).cpu.a = v := rfl
@[simp] theorem result8_f (s : State) (v : Byte) : (s.result8 v).cpu.f = s.cpu.f := rfl
@[simp] theorem result8_b (s : State) (v : Byte) : (s.result8 v).cpu.b = s.cpu.b := rfl
@[simp] theorem result8_c (s : State) (v : Byte) : (s.result8 v).cpu.c = s.cpu.c := rfl
@[simp] theorem result8_d (s : State) (v : Byte) : (s.result8 v).cpu.d = s.cpu.d := rfl
@[simp] theorem result8_e (s : State) (v : Byte) : (s.result8 v).cpu.e = s.cpu.e := rfl
@[simp] theorem result8_h (s : State) (v : Byte) : (s.result8 v).cpu.h = s.cpu.h := rfl
@[simp] theorem result8_l (s : State) (v : Byte) : (s.result8 v).cpu.l = v := rfl
@[simp] theorem result8_alt (s : State) (v : Byte) : (s.result8 v).cpu.alt = s.cpu.alt := rfl
@[simp] theorem result8_ix (s : State) (v : Byte) : (s.result8 v).cpu.ix = s.cpu.ix := rfl
@[simp] theorem result8_iy (s : State) (v : Byte) : (s.result8 v).cpu.iy = s.cpu.iy := rfl
@[simp] theorem result8_sp (s : State) (v : Byte) : (s.result8 v).cpu.sp = s.cpu.sp := rfl
@[simp] theorem result8_pc (s : State) (v : Byte) : (s.result8 v).cpu.pc = s.cpu.pc := rfl
@[simp] theorem result8_i (s : State) (v : Byte) : (s.result8 v).cpu.i = s.cpu.i := rfl
@[simp] theorem result8_r (s : State) (v : Byte) : (s.result8 v).cpu.r = s.cpu.r := rfl
@[simp] theorem result8_iff1 (s : State) (v : Byte) : (s.result8 v).cpu.iff1 = s.cpu.iff1 := rfl
@[simp] theorem result8_iff2 (s : State) (v : Byte) : (s.result8 v).cpu.iff2 = s.cpu.iff2 := rfl
@[simp] theorem result8_im (s : State) (v : Byte) : (s.result8 v).cpu.im = s.cpu.im := rfl
@[simp] theorem result8_halt (s : State) (v : Byte) : (s.result8 v).cpu.halt = s.cpu.halt := rfl
@[simp] theorem result8_eiDelay (s : State) (v : Byte) : (s.result8 v).cpu.eiDelay = s.cpu.eiDelay := rfl
@[simp] theorem result8_mem (s : State) (v : Byte) : (s.result8 v).mem = s.mem := rfl
@[simp] theorem result8_amb (s : State) (v : Byte) : (s.result8 v).amb = s.amb := rfl
@[simp] theorem result8_status (s : State) (v : Byte) : (s.result8 v).status = s.status := rfl
@[simp] theorem result8_host (s : State) (v : Byte) : (s.result8 v).host = s.host := rfl
@[simp] theorem result8_cfg (s : State) (v : Byte) : (s.result8 v).cfg = s.cfg := rfl

@[simp] theorem poke_cpu (s : State) (a : Word) (v : Byte) : (s.poke a v).cpu = s.cpu := rfl
@[simp] theorem poke_mem (s : State) (a : Word) (v : Byte) : (s.poke a v).mem = s.mem.write a v := rfl
@[simp] theorem poke_amb (s : State) (a : Word) (v : Byte) : (s.poke a v).amb = s.amb := rfl
@[simp] theorem poke_status (s : State) (a : Word) (v : Byte) : (s.poke a v).status = s.status := rfl
@[simp] theorem poke_host (s : State) (a : Word) (v : Byte) : (s.poke a v).host = s.host := rfl
@[simp] theorem poke_cfg (s : State) (a : Word) (v : Byte) : (s.poke a v).cfg = s.cfg := rfl

@[simp] theorem poke16_cpu (s : State) (a : Word) (v : Word) : (s.poke16 a v).cpu = s.cpu := rfl
@[simp] theorem poke16_mem (s : State) (a : Word) (v : Word) : (s.poke16 a v).mem = s.mem.write16 a v := rfl
@[simp] theorem poke16_amb (s : State) (a : Word) (v : Word) : (s.poke16 a v).amb = s.amb := rfl
@[simp] theorem poke16_status (s : State) (a : Word) (v : Word) : (s.poke16 a v).status = s.status := rfl
@[simp] theorem poke16_host (s : State) (a : Word) (v : Word) : (s.poke16 a v).host = s.host := rfl
@[simp] theorem poke16_cfg (s : State) (a : Word) (v : Word) : (s.poke16 a v).cfg = s.cfg := rfl

@[simp] theorem pokeBytes_cpu (s : State) (a : Word) (vs : List Byte) : (s.pokeBytes a vs).cpu = s.cpu := rfl
@[simp] theorem pokeBytes_mem (s : State) (a : Word) (vs : List Byte) : (s.pokeBytes a vs).mem = s.mem.writeBytes a vs := rfl
@[simp] theorem pokeBytes_amb (s : State) (a : Word) (vs : List Byte) : (s.pokeBytes a vs).amb = s.amb := rfl
@[simp] theorem pokeBytes_status (s : State) (a : Word) (vs : List Byte) : (s.pokeBytes a vs).status = s.status := rfl
@[simp] theorem pokeBytes_host (s : State) (a : Word) (vs : List Byte) : (s.pokeBytes a vs).host = s.host := rfl
@[simp] theorem pokeBytes_cfg (s : State) (a : Word) (vs : List Byte) : (s.pokeBytes a vs).cfg = s.cfg := rfl

@[simp] theorem setFcbHandle_cpu (s : State) (h : Nat) : (s.setFcbHandle h).cpu = s.cpu := rfl
@[simp] theorem setFcbHandle_mem (s : State) (h : Nat) : (s.setFcbHandle h).mem = s.mem.write16 (s.de + 16) (BitVec.ofNat 16 h) := rfl
@[simp] theorem setFcbHandle_amb (s : State) (h : Nat) : (s.setFcbHandle h).amb = s.amb := rfl
@[simp] theorem setFcbHandle_status (s : State) (h : Nat) : (s.setFcbHandle h).status = s.status := rfl
@[simp] theorem setFcbHandle_host (s : State) (h : Nat) : (s.setFcbHandle h).host = s.host := rfl
@[simp] theorem setFcbHandle_cfg (s : State) (h : Nat) : (s.setFcbHandle h).cfg = s.cfg := rfl

@[simp] theorem withHost_cpu (s : State) (f : HostEnv → HostEnv) : (s.withHost f).cpu = s.cpu := rfl
@[simp] theorem withHost_mem (s : State) (f : HostEnv → HostEnv) : (s.withHost f).mem = s.mem := rfl
@[simp] theorem withHost_amb (s : State) (f : HostEnv → HostEnv) : (s.withHost f).amb = s.amb := rfl
@[simp] theorem withHost_status (s : State) (f : HostEnv → HostEnv) : (s.withHost f).status = s.status := rfl
@[simp] theorem withHost_host (s : State) (f : HostEnv → HostEnv) : (s.withHost f).host = f s.host := rfl
@[simp] theorem withHost_cfg (s : State) (f : HostEnv → HostEnv) : (s.withHost f).cfg = s.cfg := rfl

@[simp] theorem afterDraw_cpu (s : State) : (s.afterDraw).cpu = s.cpu := rfl
@[simp] theorem afterDraw_mem (s : State) : (s.afterDraw).mem = s.mem := rfl
@[simp] theorem afterDraw_amb (s : State) : (s.afterDraw).amb = s.amb := rfl
@[simp] theorem afterDraw_status (s : State) : (s.afterDraw).status = s.status := rfl
@[simp] theorem afterDraw_host (s : State) : (s.afterDraw).host = s.host.draw.2 := rfl
@[simp] theorem afterDraw_cfg (s : State) : (s.afterDraw).cfg = s.cfg := rfl

@[simp] theorem withAmb_cpu (s : State) (f : Ambient → Ambient) : (s.withAmb f).cpu = s.cpu := rfl
@[simp] theorem withAmb_mem (s : State) (f : Ambient → Ambient) : (s.withAmb f).mem = s.mem := rfl
@[simp] theorem withAmb_amb (s : State) (f : Ambient → Ambient) : (s.withAmb f).amb = f s.amb := rfl
@[simp] theorem withAmb_status (s : State) (f : Ambient → Ambient) : (s.withAmb f).status = s.status := rfl
@[simp] theorem withAmb_host (s : State) (f : Ambient → Ambient) : (s.withAmb f).host = s.host := rfl
@[simp] theorem withAmb_cfg (s : State) (f : Ambient → Ambient) : (s.withAmb f).cfg = s.cfg := rfl

@[simp] theorem setStatus_cpu (s : State) (v : Status) : (s.setStatus v).cpu = s.cpu := rfl
@[simp] theorem setStatus_mem (s : State) (v : Status) : (s.setStatus v).mem = s.mem := rfl
@[simp] theorem setStatus_amb (s : State) (v : Status) : (s.setStatus v).amb = s.amb := rfl
@[simp] theorem setStatus_status (s : State) (v : Status) : (s.setStatus v).status = v := rfl
@[simp] theorem setStatus_host (s : State) (v : Status) : (s.setStatus v).host = s.host := rfl
@[simp] theorem setStatus_cfg (s : State) (v : Status) : (s.setStatus v).cfg = s.cfg := rfl

@[simp] theorem withCpu_cpu (s : State) (f : Cpu → Cpu) : (s.withCpu f).cpu = f s.cpu := rfl
@[simp] theorem withCpu_mem (s : State) (f : Cpu → Cpu) : (s.withCpu f).mem = s.mem := rfl
@[simp] theorem withCpu_amb (s : State) (f : Cpu → Cpu) : (s.withCpu f).amb = s.amb := rfl
@[simp] theorem withCpu_status (s : State) (f : Cpu → Cpu) : (s.withCpu f).status = s.status := rfl
@[simp] theorem withCpu_host (s : State) (f : Cpu → Cpu) : (s.withCpu f).host = s.host := rfl
@[simp] theorem withCpu_cfg (s : State) (f : Cpu → Cpu) : (s.withCpu f).cfg = s.cfg := rfl

@[simp] theorem push16_a (s : State) (v : Word) : (s.push16 v).cpu.a = s.cpu.a := rfl
@[simp] theorem push16_f (s : State) (v : Word) : (s.push16 v).cpu.f = s.cpu.f := rfl
@[simp] theorem push16_b (s : State) (v : Word) : (s.push16 v).cpu.b = s.cpu.b := rfl
@[simp] theorem push16_c (s : State) (v : Word) : (s.push16 v).cpu.c = s.cpu.c := rfl
@[simp] theorem push16_d (s : State) (v : Word) : (s.push16 v).cpu.d = s.cpu.d := rfl
@[simp] theorem push16_e (s : State) (v : Word) : (s.push16 v).cpu.e = s.cpu.e := rfl
@[simp] theorem push16_h (s : State) (v : Word) : (s.push16 v).cpu.h = s.cpu.h := rfl
@[simp] theorem push16_l (s : State) (v : Word) : (s.push16 v).cpu.l = s.cpu.l := rfl
@[simp] theorem push16_alt (s : State) (v : Word) : (s.push16 v).cpu.alt = s.cpu.alt := rfl
@[simp] theorem push16_ix (s : State) (v : Word) : (s.push16 v).cpu.ix = s.cpu.ix := rfl
@[simp] theorem push16_iy (s : State) (v : Word) : (s.push16 v).cpu.iy = s.cpu.iy := rfl
@[simp] theorem push16_sp (s : State) (v : Word) : (s.push16 v).cpu.sp = s.cpu.sp - 1 - 1 := rfl
@[simp] theorem push16_pc (s : State) (v : Word) : (s.push16 v).cpu.pc = s.cpu.pc := rfl
@[simp] theorem push16_i (s : State) (v : Word) : (s.push16 v).cpu.i = s.cpu.i := rfl
@[simp] theorem push16_r (s : State) (v : Word) : (s.push16 v).cpu.r = s.cpu.r := rfl
@[simp] theorem push16_iff1 (s : State) (v : Word) : (s.push16 v).cpu.iff1 = s.cpu.iff1 := rfl
@[simp] theorem push16_iff2 (s : State) (v : Word) : (s.push16 v).cpu.iff2 = s.cpu.iff2 := rfl
@[simp] theorem push16_im (s : State) (v : Word) : (s.push16 v).cpu.im = s.cpu.im := rfl
@[simp] theorem push16_halt (s : State) (v : Word) : (s.push16 v).cpu.halt = s.cpu.halt := rfl
@[simp] theorem push16_eiDelay (s : State) (v : Word) : (s.push16 v).cpu.eiDelay = s.cpu.eiDelay := rfl
@[simp] theorem push16_mem (s : State) (v : Word) : (s.push16 v).mem = (s.mem.write (s.cpu.sp - 1) (hi8 v)).write (s.cpu.sp - 1 - 1) (lo8 v) := rfl
@[simp] theorem push16_amb (s : State) (v : Word) : (s.push16 v).amb = s.amb := rfl
@[simp] theorem push16_status (s : State) (v : Word) : (s.push16 v).status = s.status := rfl
@[simp] theorem push16_host (s : State) (v : Word) : (s.push16 v).host = s.host := rfl
@[simp] theorem push16_cfg (s : State) (v : Word) : (s.push16 v).cfg = s.cfg := rfl

@[simp] theorem drawFlags_a (s : State) (mask : Byte) : (s.drawFlags mask).cpu.a = s.cpu.a := rfl
@[simp] theorem drawFlags_f (s : State) (mask : Byte) : (s.drawFlags mask).cpu.f = (s.cpu.f &&& ~~~mask) ||| (s.drawn &&& mask) := rfl
@[simp] theorem drawFlags_b (s : State) (mask : Byte) : (s.drawFlags mask).cpu.b = s.cpu.b := rfl
@[simp] theorem drawFlags_c (s : State) (mask : Byte) : (s.drawFlags mask).cpu.c = s.cpu.c := rfl
@[simp] theorem drawFlags_d (s : State) (mask : Byte) : (s.drawFlags mask).cpu.d = s.cpu.d := rfl
@[simp] theorem drawFlags_e (s : State) (mask : Byte) : (s.drawFlags mask).cpu.e = s.cpu.e := rfl
@[simp] theorem drawFlags_h (s : State) (mask : Byte) : (s.drawFlags mask).cpu.h = s.cpu.h := rfl
@[simp] theorem drawFlags_l (s : State) (mask : Byte) : (s.drawFlags mask).cpu.l = s.cpu.l := rfl
@[simp] theorem drawFlags_alt (s : State) (mask : Byte) : (s.drawFlags mask).cpu.alt = s.cpu.alt := rfl
@[simp] theorem drawFlags_ix (s : State) (mask : Byte) : (s.drawFlags mask).cpu.ix = s.cpu.ix := rfl
@[simp] theorem drawFlags_iy (s : State) (mask : Byte) : (s.drawFlags mask).cpu.iy = s.cpu.iy := rfl
@[simp] theorem drawFlags_sp (s : State) (mask : Byte) : (s.drawFlags mask).cpu.sp = s.cpu.sp := rfl
@[simp] theorem drawFlags_pc (s : State) (mask : Byte) : (s.drawFlags mask).cpu.pc = s.cpu.pc := rfl
@[simp] theorem drawFlags_i (s : State) (mask : Byte) : (s.drawFlags mask).cpu.i = s.cpu.i := rfl
@[simp] theorem drawFlags_r (s : State) (mask : Byte) : (s.drawFlags mask).cpu.r = s.cpu.r := rfl
@[simp] theorem drawFlags_iff1 (s : State) (mask : Byte) : (s.drawFlags mask).cpu.iff1 = s.cpu.iff1 := rfl
@[simp] theorem drawFlags_iff2 (s : State) (mask : Byte) : (s.drawFlags mask).cpu.iff2 = s.cpu.iff2 := rfl
@[simp] theorem drawFlags_im (s : State) (mask : Byte) : (s.drawFlags mask).cpu.im = s.cpu.im := rfl
@[simp] theorem drawFlags_halt (s : State) (mask : Byte) : (s.drawFlags mask).cpu.halt = s.cpu.halt := rfl
@[simp] theorem drawFlags_eiDelay (s : State) (mask : Byte) : (s.drawFlags mask).cpu.eiDelay = s.cpu.eiDelay := rfl
@[simp] theorem drawFlags_mem (s : State) (mask : Byte) : (s.drawFlags mask).mem = s.mem := rfl
@[simp] theorem drawFlags_amb (s : State) (mask : Byte) : (s.drawFlags mask).amb = s.amb := rfl
@[simp] theorem drawFlags_status (s : State) (mask : Byte) : (s.drawFlags mask).status = s.status := rfl
@[simp] theorem drawFlags_host (s : State) (mask : Byte) : (s.drawFlags mask).host = s.host.draw.2 := rfl
@[simp] theorem drawFlags_cfg (s : State) (mask : Byte) : (s.drawFlags mask).cfg = s.cfg := rfl

@[simp] theorem setReg_f (s : State) (r : Reg8) (v : Byte) : (s.setReg r v).cpu.f = s.cpu.f := by cases r <;> rfl
@[simp] theorem setReg_alt (s : State) (r : Reg8) (v : Byte) : (s.setReg r v).cpu.alt = s.cpu.alt := by cases r <;> rfl
@[simp] theorem setReg_ix (s : State) (r : Reg8) (v : Byte) : (s.setReg r v).cpu.ix = s.cpu.ix := by cases r <;> rfl
@[simp] theorem setReg_iy (s : State) (r : Reg8) (v : Byte) : (s.setReg r v).cpu.iy = s.cpu.iy := by cases r <;> rfl
@[simp] theorem setReg_sp (s : State) (r : Reg8) (v : Byte) : (s.setReg r v).cpu.sp = s.cpu.sp := by cases r <;> rfl
@[simp] theorem setReg_pc (s : State) (r : Reg8) (v : Byte) : (s.setReg r v).cpu.pc = s.cpu.pc := by cases r <;> rfl
@[simp] theorem setReg_i (s : State) (r : Reg8) (v : Byte) : (s.setReg r v).cpu.i = s.cpu.i := by cases r <;> rfl
@[simp] theorem setReg_r (s : State) (r : Reg8) (v : Byte) : (s.setReg r v).cpu.r = s.cpu.r := by cases r <;> rfl
@[simp] theorem setReg_iff1 (s : State) (r : Reg8) (v : Byte) : (s.setReg r v).cpu.iff1 = s.cpu.iff1 := by cases r <;> rfl
@[simp] theorem setReg_iff2 (s : State) (r : Reg8) (v : Byte) : (s.setReg r v).cpu.iff2 = s.cpu.iff2 := by cases r <;> rfl
@[simp] theorem setReg_im (s : State) (r : Reg8) (v : Byte) : (s.setReg r v).cpu.im = s.cpu.im := by cases r <;> rfl
@[simp] theorem setReg_halt (s : State) (r : Reg8) (v : Byte) : (s.setReg r v).cpu.halt = s.cpu.halt := by cases r <;> rfl
@[simp] theorem setReg_eiDelay (s : State) (r : Reg8) (v : Byte) : (s.setReg r v).cpu.eiDelay = s.cpu.eiDelay := by cases r <;> rfl
@[simp] theorem setReg_mem (s : State) (r : Reg8) (v : Byte) : (s.setReg r v).mem = s.mem := by cases r <;> rfl
@[simp] theorem setReg_amb (s : State) (r : Reg8) (v : Byte) : (s.setReg r v).amb = s.amb := by cases r <;> rfl
@[simp] theorem setReg_status (s : State) (r : Reg8) (v : Byte) : (s.setReg r v).status = s.status := by cases r <;> rfl
@[simp] theorem setReg_host (s : State) (r : Reg8) (v : Byte) : (s.setReg r v).host = s.host := by cases r <;> rfl
@[simp] theorem setReg_cfg (s : State) (r : Reg8) (v : Byte) : (s.setReg r v).cfg = s.cfg := by cases r <;> rfl

@[simp] theorem setPair_a (s : State) (p : Pair) (v : Word) : (s.setPair p v).cpu.a = s.cpu.a := by cases p <;> rfl
@[simp] theorem setPair_f (s : State) (p : Pair) (v : Word) : (s.setPair p v).cpu.f = s.cpu.f := by cases p <;> rfl
@[simp] theorem setPair_alt (s : State) (p : Pair) (v : Word) : (s.setPair p v).cpu.alt = s.cpu.alt := by cases p <;> rfl
@[simp] theorem setPair_ix (s : State) (p : Pair) (v : Word) : (s.setPair p v).cpu.ix = s.cpu.ix := by cases p <;> rfl
@[simp] theorem setPair_iy (s : State) (p : Pair) (v : Word) : (s.setPair p v).cpu.iy = s.cpu.iy := by cases p <;> rfl
@[simp] theorem setPair_pc (s : State) (p : Pair) (v : Word) : (s.setPair p v).cpu.pc = s.cpu.pc := by cases p <;> rfl
@[simp] theorem setPair_i (s : State) (p : Pair) (v : Word) : (s.setPair p v).cpu.i = s.cpu.i := by cases p <;> rfl
@[simp] theorem setPair_r (s : State) (p : Pair) (v : Word) : (s.setPair p v).cpu.r = s.cpu.r := by cases p <;> rfl
@[simp] theorem setPair_iff1 (s : State) (p : Pair) (v : Word) : (s.setPair p v).cpu.iff1 = s.cpu.iff1 := by cases p <;> rfl
@[simp] theorem setPair_iff2 (s : State) (p : Pair) (v : Word) : (s.setPair p v).cpu.iff2 = s.cpu.iff2 := by cases p <;> rfl
@[simp] theorem setPair_im (s : State) (p : Pair) (v : Word) : (s.setPair p v).cpu.im = s.cpu.im := by cases p <;> rfl
@[simp] theorem setPair_halt (s : State) (p : Pair) (v : Word) : (s.setPair p v).cpu.halt = s.cpu.halt := by cases p <;> rfl
@[simp] theorem setPair_eiDelay (s : State) (p : Pair) (v : Word) : (s.setPair p v).cpu.eiDelay = s.cpu.eiDelay := by cases p <;> rfl
@[simp] theorem setPair_mem (s : State) (p : Pair) (v : Word) : (s.setPair p v).mem = s.mem := by cases p <;> rfl
@[simp] theorem setPair_amb (s : State) (p : Pair) (v : Word) : (s.setPair p v).amb = s.amb := by cases p <;> rfl
@[simp] theorem setPair_status (s : State) (p : Pair) (v : Word) : (s.setPair p v).status = s.status := by cases p <;> rfl
@[simp] theorem setPair_host (s : State) (p : Pair) (v : Word) : (s.setPair p v).host = s.host := by cases p <;> rfl
@[simp] theorem setPair_cfg (s : State) (p : Pair) (v : Word) : (s.setPair p v).cfg = s.cfg := by cases p <;> rfl

@[simp] theorem setPairAf_alt (s : State) (p : PairAf) (v : Word) : (s.setPairAf p v).cpu.alt = s.cpu.alt := by cases p <;> rfl
@[simp] theorem setPairAf_ix (s : State) (p : PairAf) (v : Word) : (s.setPairAf p v).cpu.ix = s.cpu.ix := by cases p <;> rfl
@[simp] theorem setPairAf_iy (s : State) (p : PairAf) (v : Word) : (s.setPairAf p v).cpu.iy = s.cpu.iy := by cases p <;> rfl
@[simp] theorem setPairAf_sp (s : State) (p : PairAf) (v : Word) : (s.setPairAf p v).cpu.sp = s.cpu.sp := by cases p <;> rfl
@[simp] theorem setPairAf_pc (s : State) (p : PairAf) (v : Word) : (s.setPairAf p v).cpu.pc = s.cpu.pc := by cases p <;> rfl
@[simp] theorem setPairAf_i (s : State) (p : PairAf) (v : Word) : (s.setPairAf p v).cpu.i = s.cpu.i := by cases p <;> rfl
@[simp] theorem setPairAf_r (s : State) (p : PairAf) (v : Word) : (s.setPairAf p v).cpu.r = s.cpu.r := by cases p <;> rfl
@[simp] theorem setPairAf_iff1 (s : State) (p : PairAf) (v : Word) : (s.setPairAf p v).cpu.iff1 = s.cpu.iff1 := by cases p <;> rfl
@[simp] theorem setPairAf_iff2 (s : State) (p : PairAf) (v : Word) : (s.setPairAf p v).cpu.iff2 = s.cpu.iff2 := by cases p <;> rfl
@[simp] theorem setPairAf_im (s : State) (p : PairAf) (v : Word) : (s.setPairAf p v).cpu.im = s.cpu.im := by cases p <;> rfl
@[simp] theorem setPairAf_halt (s : State) (p : PairAf) (v : Word) : (s.setPairAf p v).cpu.halt = s.cpu.halt := by cases p <;> rfl
@[simp] theorem setPairAf_eiDelay (s : State) (p : PairAf) (v : Word) : (s.setPairAf p v).cpu.eiDelay = s.cpu.eiDelay := by cases p <;> rfl
@[simp] theorem setPairAf_mem (s : State) (p : PairAf) (v : Word) : (s.setPairAf p v).mem = s.mem := by cases p <;> rfl
@[simp] theorem setPairAf_amb (s : State) (p : PairAf) (v : Word) : (s.setPairAf p v).amb = s.amb := by cases p <;> rfl
@[simp] theorem setPairAf_status (s : State) (p : PairAf) (v : Word) : (s.setPairAf p v).status = s.status := by cases p <;> rfl
@[simp] theorem setPairAf_host (s : State) (p : PairAf) (v : Word) : (s.setPairAf p v).host = s.host := by cases p <;> rfl
@[simp] theorem setPairAf_cfg (s : State) (p : PairAf) (v : Word) : (s.setPairAf p v).cfg = s.cfg := by cases p <;> rfl

@[simp] theorem setXy_a (s : State) (x : XY) (v : Word) : (s.setXy x v).cpu.a = s.cpu.a := by cases x <;> rfl
@[simp] theorem setXy_f (s : State) (x : XY) (v : Word) : (s.setXy x v).cpu.f = s.cpu.f := by cases x <;> rfl
@[simp] theorem setXy_b (s : State) (x : XY) (v : Word) : (s.setXy x v).cpu.b = s.cpu.b := by cases x <;> rfl
@[simp] theorem setXy_c (s : State) (x : XY) (v : Word) : (s.setXy x v).cpu.c = s.cpu.c := by cases x <;> rfl
@[simp] theorem setXy_d (s : State) (x : XY) (v : Word) : (s.setXy x v).cpu.d = s.cpu.d := by cases x <;> rfl
@[simp] theorem setXy_e (s : State) (x : XY) (v : Word) : (s.setXy x v).cpu.e = s.cpu.e := by cases x <;> rfl
@[simp] theorem setXy_h (s : State) (x : XY) (v : Word) : (s.setXy x v).cpu.h = s.cpu.h := by cases x <;> rfl
@[simp] theorem setXy_l (s : State) (x : XY) (v : Word) : (s.setXy x v).cpu.l = s.cpu.l := by cases x <;> rfl
@[simp] theorem setXy_alt (s : State) (x : XY) (v : Word) : (s.setXy x v).cpu.alt = s.cpu.alt := by cases x <;> rfl
@[simp] theorem setXy_sp (s : State) (x : XY) (v : Word) : (s.setXy x v).cpu.sp = s.cpu.sp := by cases x <;> rfl
@[simp] theorem setXy_pc (s : State) (x : XY) (v : Word) : (s.setXy x v).cpu.pc = s.cpu.pc := by cases x <;> rfl
@[simp] theorem setXy_i (s : State) (x : XY) (v : Word) : (s.setXy x v).cpu.i = s.cpu.i := by cases x <;> rfl
@[simp] theorem setXy_r (s : State) (x : XY) (v : Word) : (s.setXy x v).cpu.r = s.cpu.r := by cases x <;> rfl
@[simp] theorem setXy_iff1 (s : State) (x : XY) (v : Word) : (s.setXy x v).cpu.iff1 = s.cpu.iff1 := by cases x <;> rfl
@[simp] theorem setXy_iff2 (s : State) (x : XY) (v : Word) : (s.setXy x v).cpu.iff2 = s.cpu.iff2 := by cases x <;> rfl
@[simp] theorem setXy_im (s : State) (x : XY) (v : Word) : (s.setXy x v).cpu.im = s.cpu.im := by cases x <;> rfl
@[simp] theorem setXy_halt (s : State) (x : XY) (v : Word) : (s.setXy x v).cpu.halt = s.cpu.halt := by cases x <;> rfl
@[simp] theorem setXy_eiDelay (s : State) (x : XY) (v : Word) : (s.setXy x v).cpu.eiDelay = s.cpu.eiDelay := by cases x <;> rfl
@[simp] theorem setXy_mem (s : State) (x : XY) (v : Word) : (s.setXy x v).mem = s.mem := by cases x <;> rfl
@[simp] theorem setXy_amb (s : State) (x : XY) (v : Word) : (s.setXy x v).amb = s.amb := by cases x <;> rfl
@[simp] theorem setXy_status (s : State) (x : XY) (v : Word) : (s.setXy x v).status = s.status := by cases x <;> rfl
@[simp] theorem setXy_host (s : State) (x : XY) (v : Word) : (s.setXy x v).host = s.host := by cases x <;> rfl
@[simp] theorem setXy_cfg (s : State) (x : XY) (v : Word) : (s.setXy x v).cfg = s.cfg := by cases x <;> rfl

@[simp] theorem setHalf_a (s : State) (x : XY) (h : Half) (v : Byte) : (s.setHalf x h v).cpu.a = s.cpu.a := by cases x <;> cases h <;> rfl
@[simp] theorem setHalf_f (s : State) (x : XY) (h : Half) (v : Byte) : (s.setHalf x h v).cpu.f = s.cpu.f := by cases x <;> cases h <;> rfl
@[simp] theorem setHalf_b (s : State) (x : XY) (h : Half) (v : Byte) : (s.setHalf x h v).cpu.b = s.cpu.b := by cases x <;> cases h <;> rfl
@[simp] theorem setHalf_c (s : State) (x : XY) (h : Half) (v : Byte) : (s.setHalf x h v).cpu.c = s.cpu.c := by cases x <;> cases h <;> rfl
@[simp] theorem setHalf_d (s : State) (x : XY) (h : Half) (v : Byte) : (s.setHalf x h v).cpu.d = s.cpu.d := by cases x <;> cases h <;> rfl
@[simp] theorem setHalf_e (s : State) (x : XY) (h : Half) (v : Byte) : (s.setHalf x h v).cpu.e = s.cpu.e := by cases x <;> cases h <;> rfl
@[simp] theorem setHalf_h (s : State) (x : XY) (h : Half) (v : Byte) : (s.setHalf x h v).cpu.h = s.cpu.h := by cases x <;> cases h <;> rfl
@[simp] theorem setHalf_l (s : State) (x : XY) (h : Half) (v : Byte) : (s.setHalf x h v).cpu.l = s.cpu.l := by cases x <;> cases h <;> rfl
@[simp] theorem setHalf_alt (s : State) (x : XY) (h : Half) (v : Byte) : (s.setHalf x h v).cpu.alt = s.cpu.alt := by cases x <;> cases h <;> rfl
@[simp] theorem setHalf_sp (s : State) (x : XY) (h : Half) (v : Byte) : (s.setHalf x h v).cpu.sp = s.cpu.sp := by cases x <;> cases h <;> rfl
@[simp] theorem setHalf_pc (s : State) (x : XY) (h : Half) (v : Byte) : (s.setHalf x h v).cpu.pc = s.cpu.pc := by cases x <;> cases h <;> rfl
@[simp] theorem setHalf_i (s : State) (x : XY) (h : Half) (v : Byte) : (s.setHalf x h v).cpu.i = s.cpu.i := by cases x <;> cases h <;> rfl
@[simp] theorem setHalf_r (s : State) (x : XY) (h : Half) (v : Byte) : (s.setHalf x h v).cpu.r = s.cpu.r := by cases x <;> cases h <;> rfl
@[simp] theorem setHalf_iff1 (s : State) (x : XY) (h : Half) (v : Byte) : (s.setHalf x h v).cpu.iff1 = s.cpu.iff1 := by cases x <;> cases h <;> rfl
@[simp] theorem setHalf_iff2 (s : State) (x : XY) (h : Half) (v : Byte) : (s.setHalf x h v).cpu.iff2 = s.cpu.iff2 := by cases x <;> cases h <;> rfl
@[simp] theorem setHalf_im (s : State) (x : XY) (h : Half) (v : Byte) : (s.setHalf x h v).cpu.im = s.cpu.im := by cases x <;> cases h <;> rfl
@[simp] theorem setHalf_halt (s : State) (x : XY) (h : Half) (v : Byte) : (s.setHalf x h v).cpu.halt = s.cpu.halt := by cases x <;> cases h <;> rfl
@[simp] theorem setHalf_eiDelay (s : State) (x : XY) (h : Half) (v : Byte) : (s.setHalf x h v).cpu.eiDelay = s.cpu.eiDelay := by cases x <;> cases h <;> rfl
@[simp] theorem setHalf_mem (s : State) (x : XY) (h : Half) (v : Byte) : (s.setHalf x h v).mem = s.mem := by cases x <;> cases h <;> rfl
@[simp] theorem setHalf_amb (s : State) (x : XY) (h : Half) (v : Byte) : (s.setHalf x h v).amb = s.amb := by cases x <;> cases h <;> rfl
@[simp] theorem setHalf_status (s : State) (x : XY) (h : Half) (v : Byte) : (s.setHalf x h v).status = s.status := by cases x <;> cases h <;> rfl
@[simp] theorem setHalf_host (s : State) (x : XY) (h : Half) (v : Byte) : (s.setHalf x h v).host = s.host := by cases x <;> cases h <;> rfl
@[simp] theorem setHalf_cfg (s : State) (x : XY) (h : Half) (v : Byte) : (s.setHalf x h v).cfg = s.cfg := by cases x <;> cases h <;> rfl

@[simp] theorem setRegX_f (s : State) (x : XY) (r : RegX) (v : Byte) : (s.setRegX x r v).cpu.f = s.cpu.f := by cases r <;> cases x <;> rfl
@[simp] theorem setRegX_h (s : State) (x : XY) (r : RegX) (v : Byte) : (s.setRegX x r v).cpu.h = s.cpu.h := by cases r <;> cases x <;> rfl
@[simp] theorem setRegX_l (s : State) (x : XY) (r : RegX) (v : Byte) : (s.setRegX x r v).cpu.l = s.cpu.l := by cases r <;> cases x <;> rfl
@[simp] theorem setRegX_alt (s : State) (x : XY) (r : RegX) (v : Byte) : (s.setRegX x r v).cpu.alt = s.cpu.alt := by cases r <;> cases x <;> rfl
@[simp] theorem setRegX_sp (s : State) (x : XY) (r : RegX) (v : Byte) : (s.setRegX x r v).cpu.sp = s.cpu.sp := by cases r <;> cases x <;> rfl
@[simp] theorem setRegX_pc (s : State) (x : XY) (r : RegX) (v : Byte) : (s.setRegX x r v).cpu.pc = s.cpu.pc := by cases r <;> cases x <;> rfl
@[simp] theorem setRegX_i (s : State) (x : XY) (r : RegX) (v : Byte) : (s.setRegX x r v).cpu.i = s.cpu.i := by cases r <;> cases x <;> rfl
@[simp] theorem setRegX_r (s : State) (x : XY) (r : RegX) (v : Byte) : (s.setRegX x r v).cpu.r = s.cpu.r := by cases r <;> cases x <;> rfl
@[simp] theorem setRegX_iff1 (s : State) (x : XY) (r : RegX) (v : Byte) : (s.setRegX x r v).cpu.iff1 = s.cpu.iff1 := by cases r <;> cases x <;> rfl
@[simp] theorem setRegX_iff2 (s : State) (x : XY) (r : RegX) (v : Byte) : (s.setRegX x r v).cpu.iff2 = s.cpu.iff2 := by cases r <;> cases x <;> rfl
@[simp] theorem setRegX_im (s : State) (x : XY) (r : RegX) (v : Byte) : (s.setRegX x r v).cpu.im = s.cpu.im := by cases r <;> cases x <;> rfl
@[simp] theorem setRegX_halt (s : State) (x : XY) (r : RegX) (v : Byte) : (s.setRegX x r v).cpu.halt = s.cpu.halt := by cases r <;> cases x <;> rfl
@[simp] theorem setRegX_eiDelay (s : State) (x : XY) (r : RegX) (v : Byte) : (s.setRegX x r v).cpu.eiDelay = s.cpu.eiDelay := by cases r <;> cases x <;> rfl
@[simp] theorem setRegX_mem (s : State) (x : XY) (r : RegX) (v : Byte) : (s.setRegX x r v).mem = s.mem := by cases r <;> cases x <;> rfl
@[simp] theorem setRegX_amb (s : State) (x : XY) (r : RegX) (v : Byte) : (s.setRegX x r v).amb = s.amb := by cases r <;> cases x <;> rfl
@[simp] theorem setRegX_status (s : State) (x : XY) (r : RegX) (v : Byte) : (s.setRegX x r v).status = s.status := by cases r <;> cases x <;> rfl
@[simp] theorem setRegX_host (s : State) (x : XY) (r : RegX) (v : Byte) : (s.setRegX x r v).host = s.host := by cases r <;> cases x <;> rfl
@[simp] theorem setRegX_cfg (s : State) (x : XY) (r : RegX) (v : Byte) : (s.setRegX x r v).cfg = s.cfg := by cases r <;> cases x <;> rfl

/-! ## A write read back -/

@[simp] theorem reg_setReg (s : State) (r : Reg8) (v : Byte) : (s.setReg r v).reg r = v := by cases r <;> rfl

theorem reg_setReg_ne (s : State) {r q : Reg8} (v : Byte) (h : q ≠ r) : (s.setReg r v).reg q = s.reg q := by
  cases r <;> cases q <;> first | rfl | exact absurd rfl h

@[simp] theorem xy_setXy (s : State) (x : XY) (v : Word) : (s.setXy x v).xy x = v := by cases x <;> rfl

theorem xy_setXy_ne (s : State) {x y : XY} (v : Word) (h : y ≠ x) : (s.setXy x v).xy y = s.xy y := by
  cases x <;> cases y <;> first | rfl | exact absurd rfl h

@[simp] theorem peek_eq (s : State) (a : Word) : s.peek a = s.mem.read a := rfl

/-! ## Reads that see a component only -/

@[simp] theorem reg_opening (s : State) (fm : Format) (r : Reg8) : (s.opening fm).reg r = s.reg r := by cases r <;> rfl
@[simp] theorem bc_opening (s : State) (fm : Format) : (s.opening fm).bc = s.bc := rfl
@[simp] theorem de_opening (s : State) (fm : Format) : (s.opening fm).de = s.de := rfl
@[simp] theorem hl_opening (s : State) (fm : Format) : (s.opening fm).hl = s.hl := rfl
@[simp] theorem xy_opening (s : State) (fm : Format) (x : XY) : (s.opening fm).xy x = s.xy x := by cases x <;> rfl
@[simp] theorem ea_opening (s : State) (fm : Format) (x : XY) (d : Byte) : (s.opening fm).ea x d = s.ea x d := by
  cases x <;> rfl
@[simp] theorem half_opening (s : State) (fm : Format) (x : XY) (h : Half) : (s.opening fm).half x h = s.half x h := by
  cases x <;> cases h <;> rfl
@[simp] theorem flags_opening (s : State) (fm : Format) : (s.opening fm).flags = s.flags := rfl
@[simp] theorem carry_opening (s : State) (fm : Format) : (s.opening fm).carry = s.carry := rfl
@[simp] theorem nextPc_opening (s : State) (fm gm : Format) : (s.opening fm).nextPc gm = s.nextPc gm := rfl
@[simp] theorem top16_opening (s : State) (fm : Format) : (s.opening fm).top16 = s.top16 := rfl
@[simp] theorem reg_closing (s : State) (fm : Format) (r : Reg8) : (s.closing fm).reg r = s.reg r := by cases r <;> rfl
@[simp] theorem flags_closing (s : State) (fm : Format) : (s.closing fm).flags = s.flags := rfl

end Sys2Proof.Machine.State
end

