-- ==== Sys2Proof/Laws/Ops.lean ====
section
/-! SUPPORT. What each shared operation does, once: the frames of an instruction, the stack, faults, the entry of a handler
and the return from it, and the end of a trap. -/

namespace Sys2Proof.Machine

/-! ## The frames of an instruction -/

theorem straight_eq (fm : Format) (effect : State → State) (s : State) :
    straight fm effect s = .next ((effect (s.opening fm)).closing fm) := rfl

theorem transfer_eq (fm : Format) (effect : State → State) (s : State) :
    transfer fm effect s = .next (effect (s.opening fm)) := rfl

/-- An iteration either repeats, `PC` unchanged and the flags of `mask` drawn, or ends (R520, R523). -/
theorem iteration_cases (mask : Byte) (effect : State → State) (again : State → Bool) (s : State) :
    (again (effect (s.opening .ed2)) = true ∧
      iteration mask effect again s = .next ((effect (s.opening .ed2)).drawFlags mask)) ∨
    (again (effect (s.opening .ed2)) = false ∧
      iteration mask effect again s = .next ((effect (s.opening .ed2)).closing .ed2)) := by
  unfold iteration
  cases h : again (effect (s.opening .ed2)) <;> simp [h]

theorem raise_eq (f : Fault) (s : State) : raise f s = .next (s.setStatus (.faulted f)) := rfl

theorem jumpIf_true (fm : Format) (target : Word) (s : State) : jumpIf fm true target s = s.setPc target := rfl

theorem jumpIf_false (fm : Format) (target : Word) (s : State) : jumpIf fm false target s = s.closing fm := rfl

/-! ## The stack -/

/-- Two decrements and one increment of an address. -/
theorem pred_pred_succ (a : Word) : a - 1 - 1 + 1 = a - 1 := BitVec.sub_add_cancel (a - 1) 1

/-- Two decrements and a step of two. -/
theorem pred_pred_add_two (a : Word) : a - 1 - 1 + 2 = a := by
  have h : (a - 1 - 1 + 2 : Word) = (a - 1 - 1 + 1) + 1 := by rw [BitVec.add_assoc]; rfl
  rw [h, pred_pred_succ, BitVec.sub_add_cancel]

/-- `Pop16` after `Push16(v)` returns `v` (R15). -/
theorem top16_push16 {s : State} (h : s.mem.wf = true) (v : Word) : (s.push16 v).top16 = v := by
  have h1 := Memory.write_wf h (s.cpu.sp - 1) (hi8 v)
  have hne : s.cpu.sp - 1 ≠ s.cpu.sp - 1 - 1 := by
    intro e
    have := Memory.succ_ne (s.cpu.sp - 1 - 1)
    rw [pred_pred_succ] at this
    exact this e.symm
  simp only [State.top16, State.peek_eq, State.push16_sp, State.push16_mem, pred_pred_succ]
  rw [Memory.read_write h1, Memory.read_write_ne _ _ hne, Memory.read_write h, cat_hi8_lo8]

/-- `Pop16` after `Push16` leaves `SP` as it was (R15, R442). -/
theorem sp_push16_pop (s : State) (v : Word) : (s.push16 v).dropWord.cpu.sp = s.cpu.sp := pred_pred_add_two s.cpu.sp

/-- A push writes the two bytes below `SP` and no other (R15). -/
theorem push16_bytes (s : State) (v : Word) {a : Word} (h1 : a ≠ s.cpu.sp - 1) (h2 : a ≠ s.cpu.sp - 1 - 1) :
    (s.push16 v).peek a = s.peek a := by
  simp only [State.peek_eq, State.push16_mem]
  rw [Memory.read_write_ne _ _ h2, Memory.read_write_ne _ _ h1]

/-- A push keeps the canonical form. -/
theorem push16_wf {s : State} (h : s.mem.wf = true) (v : Word) : (s.push16 v).mem.wf = true :=
  Memory.write_wf (Memory.write_wf h _ _) _ _

/-! ## Handlers -/

/-- What the entry of a handler does to each component (R1510 to R1513). -/
theorem enterHandler_spec (iff2 : Bool) (target : State → Word) (s : State) :
    ∃ p : State, p = (((s.setHalt false).bump 1).setIff false iff2).push16 s.cpu.pc ∧
      enterHandler iff2 target s = (p.setPc (target p)).setEiDelay false ∧
      p.mem = (s.mem.write (s.cpu.sp - 1) (hi8 s.cpu.pc)).write (s.cpu.sp - 1 - 1) (lo8 s.cpu.pc) ∧
      p.cpu.sp = s.cpu.sp - 1 - 1 ∧ p.cpu.r = bumpR 1 s.cpu.r ∧ p.cpu.halt = false ∧
      p.cpu.iff1 = false ∧ p.cpu.iff2 = iff2 :=
  ⟨_, rfl, rfl, rfl, rfl, rfl, rfl, rfl, rfl⟩

/-- What RETI and RETN do (R1112, R1113). -/
theorem returnFromHandler_spec (s : State) :
    returnFromHandler s = ((s.setPc s.top16).dropWord).setIff s.cpu.iff2 s.cpu.iff2 := rfl

/-! ## Traps -/

/-- A trap ends with the pop of `PC`, or with a fault that leaves the core as it was (R1313, R1314, R1501). -/
theorem finishTrap_cases (s : State) (r : TrapResult) :
    (∃ u, r = .done u ∧ finishTrap s r = .next (u.popPc.setEiDelay false)) ∨
    (∃ f h, r = .fault f h ∧ finishTrap s r = .next { s with host := h, status := .faulted f }) := by
  cases r with
  | done u => exact .inl ⟨u, rfl, rfl⟩
  | fault f h => exact .inr ⟨f, h, rfl, rfl⟩

end Sys2Proof.Machine
end

