-- ==== Sys2Proof/Laws/PerInstr.lean ====
section
/-! SUPPORT. Laws stated instruction by instruction. -/

/-- The encoder writes as many bytes as the instruction's format has (R310, R319). -/
def Sys2Proof.Laws.Length.Statement (i : Sys2Proof.Instr) : Prop := (Sys2Proof.encode i).length = i.length

theorem Sys2Proof.Laws.Length.ldRR (r : Sys2Proof.Reg8) (r' : Sys2Proof.Reg8) : Sys2Proof.Laws.Length.Statement (.ldRR r r') := rfl
theorem Sys2Proof.Laws.Length.ldRN (r : Sys2Proof.Reg8) (n : Sys2Proof.Byte) : Sys2Proof.Laws.Length.Statement (.ldRN r n) := rfl
theorem Sys2Proof.Laws.Length.ldRHl (r : Sys2Proof.Reg8) : Sys2Proof.Laws.Length.Statement (.ldRHl r) := rfl
theorem Sys2Proof.Laws.Length.ldRIxd (r : Sys2Proof.Reg8) (d : Sys2Proof.Byte) : Sys2Proof.Laws.Length.Statement (.ldRIxd r d) := rfl
theorem Sys2Proof.Laws.Length.ldRIyd (r : Sys2Proof.Reg8) (d : Sys2Proof.Byte) : Sys2Proof.Laws.Length.Statement (.ldRIyd r d) := rfl
theorem Sys2Proof.Laws.Length.ldHlR (r : Sys2Proof.Reg8) : Sys2Proof.Laws.Length.Statement (.ldHlR r) := rfl
theorem Sys2Proof.Laws.Length.ldIxdR (d : Sys2Proof.Byte) (r : Sys2Proof.Reg8) : Sys2Proof.Laws.Length.Statement (.ldIxdR d r) := rfl
theorem Sys2Proof.Laws.Length.ldIydR (d : Sys2Proof.Byte) (r : Sys2Proof.Reg8) : Sys2Proof.Laws.Length.Statement (.ldIydR d r) := rfl
theorem Sys2Proof.Laws.Length.ldHlN (n : Sys2Proof.Byte) : Sys2Proof.Laws.Length.Statement (.ldHlN n) := rfl
theorem Sys2Proof.Laws.Length.ldIxdN (d : Sys2Proof.Byte) (n : Sys2Proof.Byte) : Sys2Proof.Laws.Length.Statement (.ldIxdN d n) := rfl
theorem Sys2Proof.Laws.Length.ldIydN (d : Sys2Proof.Byte) (n : Sys2Proof.Byte) : Sys2Proof.Laws.Length.Statement (.ldIydN d n) := rfl
theorem Sys2Proof.Laws.Length.ldABc : Sys2Proof.Laws.Length.Statement (.ldABc) := rfl
theorem Sys2Proof.Laws.Length.ldADe : Sys2Proof.Laws.Length.Statement (.ldADe) := rfl
theorem Sys2Proof.Laws.Length.ldANn (nn : Sys2Proof.Word) : Sys2Proof.Laws.Length.Statement (.ldANn nn) := rfl
theorem Sys2Proof.Laws.Length.ldBcA : Sys2Proof.Laws.Length.Statement (.ldBcA) := rfl
theorem Sys2Proof.Laws.Length.ldDeA : Sys2Proof.Laws.Length.Statement (.ldDeA) := rfl
theorem Sys2Proof.Laws.Length.ldNnA (nn : Sys2Proof.Word) : Sys2Proof.Laws.Length.Statement (.ldNnA nn) := rfl
theorem Sys2Proof.Laws.Length.ldAI : Sys2Proof.Laws.Length.Statement (.ldAI) := rfl
theorem Sys2Proof.Laws.Length.ldARefresh : Sys2Proof.Laws.Length.Statement (.ldARefresh) := rfl
theorem Sys2Proof.Laws.Length.ldIA : Sys2Proof.Laws.Length.Statement (.ldIA) := rfl
theorem Sys2Proof.Laws.Length.ldRefreshA : Sys2Proof.Laws.Length.Statement (.ldRefreshA) := rfl
theorem Sys2Proof.Laws.Length.ldIxHalves (r : Sys2Proof.RegX) (r' : Sys2Proof.RegX) : Sys2Proof.Laws.Length.Statement (.ldIxHalves r r') := rfl
theorem Sys2Proof.Laws.Length.ldIyHalves (r : Sys2Proof.RegX) (r' : Sys2Proof.RegX) : Sys2Proof.Laws.Length.Statement (.ldIyHalves r r') := rfl
theorem Sys2Proof.Laws.Length.ldIxhN (h : Sys2Proof.Half) (n : Sys2Proof.Byte) : Sys2Proof.Laws.Length.Statement (.ldIxhN h n) := rfl
theorem Sys2Proof.Laws.Length.ldIyhN (h : Sys2Proof.Half) (n : Sys2Proof.Byte) : Sys2Proof.Laws.Length.Statement (.ldIyhN h n) := rfl
theorem Sys2Proof.Laws.Length.ldDdNn (p : Sys2Proof.Pair) (nn : Sys2Proof.Word) : Sys2Proof.Laws.Length.Statement (.ldDdNn p nn) := rfl
theorem Sys2Proof.Laws.Length.ldIxNn (nn : Sys2Proof.Word) : Sys2Proof.Laws.Length.Statement (.ldIxNn nn) := rfl
theorem Sys2Proof.Laws.Length.ldIyNn (nn : Sys2Proof.Word) : Sys2Proof.Laws.Length.Statement (.ldIyNn nn) := rfl
theorem Sys2Proof.Laws.Length.ldHlMem (nn : Sys2Proof.Word) : Sys2Proof.Laws.Length.Statement (.ldHlMem nn) := rfl
theorem Sys2Proof.Laws.Length.ldDdMem (p : Sys2Proof.Pair) (nn : Sys2Proof.Word) : Sys2Proof.Laws.Length.Statement (.ldDdMem p nn) := rfl
theorem Sys2Proof.Laws.Length.ldIxMem (nn : Sys2Proof.Word) : Sys2Proof.Laws.Length.Statement (.ldIxMem nn) := rfl
theorem Sys2Proof.Laws.Length.ldIyMem (nn : Sys2Proof.Word) : Sys2Proof.Laws.Length.Statement (.ldIyMem nn) := rfl
theorem Sys2Proof.Laws.Length.ldMemHl (nn : Sys2Proof.Word) : Sys2Proof.Laws.Length.Statement (.ldMemHl nn) := rfl
theorem Sys2Proof.Laws.Length.ldMemDd (nn : Sys2Proof.Word) (p : Sys2Proof.Pair) : Sys2Proof.Laws.Length.Statement (.ldMemDd nn p) := rfl
theorem Sys2Proof.Laws.Length.ldMemIx (nn : Sys2Proof.Word) : Sys2Proof.Laws.Length.Statement (.ldMemIx nn) := rfl
theorem Sys2Proof.Laws.Length.ldMemIy (nn : Sys2Proof.Word) : Sys2Proof.Laws.Length.Statement (.ldMemIy nn) := rfl
theorem Sys2Proof.Laws.Length.ldSpHl : Sys2Proof.Laws.Length.Statement (.ldSpHl) := rfl
theorem Sys2Proof.Laws.Length.ldSpIx : Sys2Proof.Laws.Length.Statement (.ldSpIx) := rfl
theorem Sys2Proof.Laws.Length.ldSpIy : Sys2Proof.Laws.Length.Statement (.ldSpIy) := rfl
theorem Sys2Proof.Laws.Length.pushQq (p : Sys2Proof.PairAf) : Sys2Proof.Laws.Length.Statement (.pushQq p) := rfl
theorem Sys2Proof.Laws.Length.pushIx : Sys2Proof.Laws.Length.Statement (.pushIx) := rfl
theorem Sys2Proof.Laws.Length.pushIy : Sys2Proof.Laws.Length.Statement (.pushIy) := rfl
theorem Sys2Proof.Laws.Length.popQq (p : Sys2Proof.PairAf) : Sys2Proof.Laws.Length.Statement (.popQq p) := rfl
theorem Sys2Proof.Laws.Length.popIx : Sys2Proof.Laws.Length.Statement (.popIx) := rfl
theorem Sys2Proof.Laws.Length.popIy : Sys2Proof.Laws.Length.Statement (.popIy) := rfl
theorem Sys2Proof.Laws.Length.exDeHl : Sys2Proof.Laws.Length.Statement (.exDeHl) := rfl
theorem Sys2Proof.Laws.Length.exAfAf : Sys2Proof.Laws.Length.Statement (.exAfAf) := rfl
theorem Sys2Proof.Laws.Length.exx : Sys2Proof.Laws.Length.Statement (.exx) := rfl
theorem Sys2Proof.Laws.Length.exSpHl : Sys2Proof.Laws.Length.Statement (.exSpHl) := rfl
theorem Sys2Proof.Laws.Length.exSpIx : Sys2Proof.Laws.Length.Statement (.exSpIx) := rfl
theorem Sys2Proof.Laws.Length.exSpIy : Sys2Proof.Laws.Length.Statement (.exSpIy) := rfl
theorem Sys2Proof.Laws.Length.ldi : Sys2Proof.Laws.Length.Statement (.ldi) := rfl
theorem Sys2Proof.Laws.Length.ldir : Sys2Proof.Laws.Length.Statement (.ldir) := rfl
theorem Sys2Proof.Laws.Length.ldd : Sys2Proof.Laws.Length.Statement (.ldd) := rfl
theorem Sys2Proof.Laws.Length.lddr : Sys2Proof.Laws.Length.Statement (.lddr) := rfl
theorem Sys2Proof.Laws.Length.cpi : Sys2Proof.Laws.Length.Statement (.cpi) := rfl
theorem Sys2Proof.Laws.Length.cpir : Sys2Proof.Laws.Length.Statement (.cpir) := rfl
theorem Sys2Proof.Laws.Length.cpd : Sys2Proof.Laws.Length.Statement (.cpd) := rfl
theorem Sys2Proof.Laws.Length.cpdr : Sys2Proof.Laws.Length.Statement (.cpdr) := rfl
theorem Sys2Proof.Laws.Length.addR (r : Sys2Proof.Reg8) : Sys2Proof.Laws.Length.Statement (.addR r) := rfl
theorem Sys2Proof.Laws.Length.addN (n : Sys2Proof.Byte) : Sys2Proof.Laws.Length.Statement (.addN n) := rfl
theorem Sys2Proof.Laws.Length.addHl : Sys2Proof.Laws.Length.Statement (.addHl) := rfl
theorem Sys2Proof.Laws.Length.addIxd (d : Sys2Proof.Byte) : Sys2Proof.Laws.Length.Statement (.addIxd d) := rfl
theorem Sys2Proof.Laws.Length.addIyd (d : Sys2Proof.Byte) : Sys2Proof.Laws.Length.Statement (.addIyd d) := rfl
theorem Sys2Proof.Laws.Length.addIxh (h : Sys2Proof.Half) : Sys2Proof.Laws.Length.Statement (.addIxh h) := rfl
theorem Sys2Proof.Laws.Length.addIyh (h : Sys2Proof.Half) : Sys2Proof.Laws.Length.Statement (.addIyh h) := rfl
theorem Sys2Proof.Laws.Length.adcR (r : Sys2Proof.Reg8) : Sys2Proof.Laws.Length.Statement (.adcR r) := rfl
theorem Sys2Proof.Laws.Length.adcN (n : Sys2Proof.Byte) : Sys2Proof.Laws.Length.Statement (.adcN n) := rfl
theorem Sys2Proof.Laws.Length.adcHl : Sys2Proof.Laws.Length.Statement (.adcHl) := rfl
theorem Sys2Proof.Laws.Length.adcIxd (d : Sys2Proof.Byte) : Sys2Proof.Laws.Length.Statement (.adcIxd d) := rfl
theorem Sys2Proof.Laws.Length.adcIyd (d : Sys2Proof.Byte) : Sys2Proof.Laws.Length.Statement (.adcIyd d) := rfl
theorem Sys2Proof.Laws.Length.adcIxh (h : Sys2Proof.Half) : Sys2Proof.Laws.Length.Statement (.adcIxh h) := rfl
theorem Sys2Proof.Laws.Length.adcIyh (h : Sys2Proof.Half) : Sys2Proof.Laws.Length.Statement (.adcIyh h) := rfl
theorem Sys2Proof.Laws.Length.subR (r : Sys2Proof.Reg8) : Sys2Proof.Laws.Length.Statement (.subR r) := rfl
theorem Sys2Proof.Laws.Length.subN (n : Sys2Proof.Byte) : Sys2Proof.Laws.Length.Statement (.subN n) := rfl
theorem Sys2Proof.Laws.Length.subHl : Sys2Proof.Laws.Length.Statement (.subHl) := rfl
theorem Sys2Proof.Laws.Length.subIxd (d : Sys2Proof.Byte) : Sys2Proof.Laws.Length.Statement (.subIxd d) := rfl
theorem Sys2Proof.Laws.Length.subIyd (d : Sys2Proof.Byte) : Sys2Proof.Laws.Length.Statement (.subIyd d) := rfl
theorem Sys2Proof.Laws.Length.subIxh (h : Sys2Proof.Half) : Sys2Proof.Laws.Length.Statement (.subIxh h) := rfl
theorem Sys2Proof.Laws.Length.subIyh (h : Sys2Proof.Half) : Sys2Proof.Laws.Length.Statement (.subIyh h) := rfl
theorem Sys2Proof.Laws.Length.sbcR (r : Sys2Proof.Reg8) : Sys2Proof.Laws.Length.Statement (.sbcR r) := rfl
theorem Sys2Proof.Laws.Length.sbcN (n : Sys2Proof.Byte) : Sys2Proof.Laws.Length.Statement (.sbcN n) := rfl
theorem Sys2Proof.Laws.Length.sbcHl : Sys2Proof.Laws.Length.Statement (.sbcHl) := rfl
theorem Sys2Proof.Laws.Length.sbcIxd (d : Sys2Proof.Byte) : Sys2Proof.Laws.Length.Statement (.sbcIxd d) := rfl
theorem Sys2Proof.Laws.Length.sbcIyd (d : Sys2Proof.Byte) : Sys2Proof.Laws.Length.Statement (.sbcIyd d) := rfl
theorem Sys2Proof.Laws.Length.sbcIxh (h : Sys2Proof.Half) : Sys2Proof.Laws.Length.Statement (.sbcIxh h) := rfl
theorem Sys2Proof.Laws.Length.sbcIyh (h : Sys2Proof.Half) : Sys2Proof.Laws.Length.Statement (.sbcIyh h) := rfl
theorem Sys2Proof.Laws.Length.andR (r : Sys2Proof.Reg8) : Sys2Proof.Laws.Length.Statement (.andR r) := rfl
theorem Sys2Proof.Laws.Length.andN (n : Sys2Proof.Byte) : Sys2Proof.Laws.Length.Statement (.andN n) := rfl
theorem Sys2Proof.Laws.Length.andHl : Sys2Proof.Laws.Length.Statement (.andHl) := rfl
theorem Sys2Proof.Laws.Length.andIxd (d : Sys2Proof.Byte) : Sys2Proof.Laws.Length.Statement (.andIxd d) := rfl
theorem Sys2Proof.Laws.Length.andIyd (d : Sys2Proof.Byte) : Sys2Proof.Laws.Length.Statement (.andIyd d) := rfl
theorem Sys2Proof.Laws.Length.andIxh (h : Sys2Proof.Half) : Sys2Proof.Laws.Length.Statement (.andIxh h) := rfl
theorem Sys2Proof.Laws.Length.andIyh (h : Sys2Proof.Half) : Sys2Proof.Laws.Length.Statement (.andIyh h) := rfl
theorem Sys2Proof.Laws.Length.xorR (r : Sys2Proof.Reg8) : Sys2Proof.Laws.Length.Statement (.xorR r) := rfl
theorem Sys2Proof.Laws.Length.xorN (n : Sys2Proof.Byte) : Sys2Proof.Laws.Length.Statement (.xorN n) := rfl
theorem Sys2Proof.Laws.Length.xorHl : Sys2Proof.Laws.Length.Statement (.xorHl) := rfl
theorem Sys2Proof.Laws.Length.xorIxd (d : Sys2Proof.Byte) : Sys2Proof.Laws.Length.Statement (.xorIxd d) := rfl
theorem Sys2Proof.Laws.Length.xorIyd (d : Sys2Proof.Byte) : Sys2Proof.Laws.Length.Statement (.xorIyd d) := rfl
theorem Sys2Proof.Laws.Length.xorIxh (h : Sys2Proof.Half) : Sys2Proof.Laws.Length.Statement (.xorIxh h) := rfl
theorem Sys2Proof.Laws.Length.xorIyh (h : Sys2Proof.Half) : Sys2Proof.Laws.Length.Statement (.xorIyh h) := rfl
theorem Sys2Proof.Laws.Length.orR (r : Sys2Proof.Reg8) : Sys2Proof.Laws.Length.Statement (.orR r) := rfl
theorem Sys2Proof.Laws.Length.orN (n : Sys2Proof.Byte) : Sys2Proof.Laws.Length.Statement (.orN n) := rfl
theorem Sys2Proof.Laws.Length.orHl : Sys2Proof.Laws.Length.Statement (.orHl) := rfl
theorem Sys2Proof.Laws.Length.orIxd (d : Sys2Proof.Byte) : Sys2Proof.Laws.Length.Statement (.orIxd d) := rfl
theorem Sys2Proof.Laws.Length.orIyd (d : Sys2Proof.Byte) : Sys2Proof.Laws.Length.Statement (.orIyd d) := rfl
theorem Sys2Proof.Laws.Length.orIxh (h : Sys2Proof.Half) : Sys2Proof.Laws.Length.Statement (.orIxh h) := rfl
theorem Sys2Proof.Laws.Length.orIyh (h : Sys2Proof.Half) : Sys2Proof.Laws.Length.Statement (.orIyh h) := rfl
theorem Sys2Proof.Laws.Length.cpR (r : Sys2Proof.Reg8) : Sys2Proof.Laws.Length.Statement (.cpR r) := rfl
theorem Sys2Proof.Laws.Length.cpN (n : Sys2Proof.Byte) : Sys2Proof.Laws.Length.Statement (.cpN n) := rfl
theorem Sys2Proof.Laws.Length.cpHl : Sys2Proof.Laws.Length.Statement (.cpHl) := rfl
theorem Sys2Proof.Laws.Length.cpIxd (d : Sys2Proof.Byte) : Sys2Proof.Laws.Length.Statement (.cpIxd d) := rfl
theorem Sys2Proof.Laws.Length.cpIyd (d : Sys2Proof.Byte) : Sys2Proof.Laws.Length.Statement (.cpIyd d) := rfl
theorem Sys2Proof.Laws.Length.cpIxh (h : Sys2Proof.Half) : Sys2Proof.Laws.Length.Statement (.cpIxh h) := rfl
theorem Sys2Proof.Laws.Length.cpIyh (h : Sys2Proof.Half) : Sys2Proof.Laws.Length.Statement (.cpIyh h) := rfl
theorem Sys2Proof.Laws.Length.incR (r : Sys2Proof.Reg8) : Sys2Proof.Laws.Length.Statement (.incR r) := rfl
theorem Sys2Proof.Laws.Length.incHl : Sys2Proof.Laws.Length.Statement (.incHl) := rfl
theorem Sys2Proof.Laws.Length.incIxd (d : Sys2Proof.Byte) : Sys2Proof.Laws.Length.Statement (.incIxd d) := rfl
theorem Sys2Proof.Laws.Length.incIyd (d : Sys2Proof.Byte) : Sys2Proof.Laws.Length.Statement (.incIyd d) := rfl
theorem Sys2Proof.Laws.Length.incIxh (h : Sys2Proof.Half) : Sys2Proof.Laws.Length.Statement (.incIxh h) := rfl
theorem Sys2Proof.Laws.Length.incIyh (h : Sys2Proof.Half) : Sys2Proof.Laws.Length.Statement (.incIyh h) := rfl
theorem Sys2Proof.Laws.Length.decR (r : Sys2Proof.Reg8) : Sys2Proof.Laws.Length.Statement (.decR r) := rfl
theorem Sys2Proof.Laws.Length.decHl : Sys2Proof.Laws.Length.Statement (.decHl) := rfl
theorem Sys2Proof.Laws.Length.decIxd (d : Sys2Proof.Byte) : Sys2Proof.Laws.Length.Statement (.decIxd d) := rfl
theorem Sys2Proof.Laws.Length.decIyd (d : Sys2Proof.Byte) : Sys2Proof.Laws.Length.Statement (.decIyd d) := rfl
theorem Sys2Proof.Laws.Length.decIxh (h : Sys2Proof.Half) : Sys2Proof.Laws.Length.Statement (.decIxh h) := rfl
theorem Sys2Proof.Laws.Length.decIyh (h : Sys2Proof.Half) : Sys2Proof.Laws.Length.Statement (.decIyh h) := rfl
theorem Sys2Proof.Laws.Length.daa : Sys2Proof.Laws.Length.Statement (.daa) := rfl
theorem Sys2Proof.Laws.Length.cpl : Sys2Proof.Laws.Length.Statement (.cpl) := rfl
theorem Sys2Proof.Laws.Length.neg : Sys2Proof.Laws.Length.Statement (.neg) := rfl
theorem Sys2Proof.Laws.Length.ccf : Sys2Proof.Laws.Length.Statement (.ccf) := rfl
theorem Sys2Proof.Laws.Length.scf : Sys2Proof.Laws.Length.Statement (.scf) := rfl
theorem Sys2Proof.Laws.Length.nop : Sys2Proof.Laws.Length.Statement (.nop) := rfl
theorem Sys2Proof.Laws.Length.halt : Sys2Proof.Laws.Length.Statement (.halt) := rfl
theorem Sys2Proof.Laws.Length.di : Sys2Proof.Laws.Length.Statement (.di) := rfl
theorem Sys2Proof.Laws.Length.ei : Sys2Proof.Laws.Length.Statement (.ei) := rfl
theorem Sys2Proof.Laws.Length.im0 : Sys2Proof.Laws.Length.Statement (.im0) := rfl
theorem Sys2Proof.Laws.Length.im1 : Sys2Proof.Laws.Length.Statement (.im1) := rfl
theorem Sys2Proof.Laws.Length.im2 : Sys2Proof.Laws.Length.Statement (.im2) := rfl
theorem Sys2Proof.Laws.Length.addHlSs (p : Sys2Proof.Pair) : Sys2Proof.Laws.Length.Statement (.addHlSs p) := rfl
theorem Sys2Proof.Laws.Length.adcHlSs (p : Sys2Proof.Pair) : Sys2Proof.Laws.Length.Statement (.adcHlSs p) := rfl
theorem Sys2Proof.Laws.Length.sbcHlSs (p : Sys2Proof.Pair) : Sys2Proof.Laws.Length.Statement (.sbcHlSs p) := rfl
theorem Sys2Proof.Laws.Length.addIxPp (p : Sys2Proof.PairX) : Sys2Proof.Laws.Length.Statement (.addIxPp p) := rfl
theorem Sys2Proof.Laws.Length.addIyPp (p : Sys2Proof.PairX) : Sys2Proof.Laws.Length.Statement (.addIyPp p) := rfl
theorem Sys2Proof.Laws.Length.incSs (p : Sys2Proof.Pair) : Sys2Proof.Laws.Length.Statement (.incSs p) := rfl
theorem Sys2Proof.Laws.Length.incIx : Sys2Proof.Laws.Length.Statement (.incIx) := rfl
theorem Sys2Proof.Laws.Length.incIy : Sys2Proof.Laws.Length.Statement (.incIy) := rfl
theorem Sys2Proof.Laws.Length.decSs (p : Sys2Proof.Pair) : Sys2Proof.Laws.Length.Statement (.decSs p) := rfl
theorem Sys2Proof.Laws.Length.decIx : Sys2Proof.Laws.Length.Statement (.decIx) := rfl
theorem Sys2Proof.Laws.Length.decIy : Sys2Proof.Laws.Length.Statement (.decIy) := rfl
theorem Sys2Proof.Laws.Length.rlca : Sys2Proof.Laws.Length.Statement (.rlca) := rfl
theorem Sys2Proof.Laws.Length.rla : Sys2Proof.Laws.Length.Statement (.rla) := rfl
theorem Sys2Proof.Laws.Length.rrca : Sys2Proof.Laws.Length.Statement (.rrca) := rfl
theorem Sys2Proof.Laws.Length.rra : Sys2Proof.Laws.Length.Statement (.rra) := rfl
theorem Sys2Proof.Laws.Length.rlcR (r : Sys2Proof.Reg8) : Sys2Proof.Laws.Length.Statement (.rlcR r) := rfl
theorem Sys2Proof.Laws.Length.rlcHl : Sys2Proof.Laws.Length.Statement (.rlcHl) := rfl
theorem Sys2Proof.Laws.Length.rlcIxd (d : Sys2Proof.Byte) : Sys2Proof.Laws.Length.Statement (.rlcIxd d) := rfl
theorem Sys2Proof.Laws.Length.rlcIyd (d : Sys2Proof.Byte) : Sys2Proof.Laws.Length.Statement (.rlcIyd d) := rfl
theorem Sys2Proof.Laws.Length.rrcR (r : Sys2Proof.Reg8) : Sys2Proof.Laws.Length.Statement (.rrcR r) := rfl
theorem Sys2Proof.Laws.Length.rrcHl : Sys2Proof.Laws.Length.Statement (.rrcHl) := rfl
theorem Sys2Proof.Laws.Length.rrcIxd (d : Sys2Proof.Byte) : Sys2Proof.Laws.Length.Statement (.rrcIxd d) := rfl
theorem Sys2Proof.Laws.Length.rrcIyd (d : Sys2Proof.Byte) : Sys2Proof.Laws.Length.Statement (.rrcIyd d) := rfl
theorem Sys2Proof.Laws.Length.rlR (r : Sys2Proof.Reg8) : Sys2Proof.Laws.Length.Statement (.rlR r) := rfl
theorem Sys2Proof.Laws.Length.rlHl : Sys2Proof.Laws.Length.Statement (.rlHl) := rfl
theorem Sys2Proof.Laws.Length.rlIxd (d : Sys2Proof.Byte) : Sys2Proof.Laws.Length.Statement (.rlIxd d) := rfl
theorem Sys2Proof.Laws.Length.rlIyd (d : Sys2Proof.Byte) : Sys2Proof.Laws.Length.Statement (.rlIyd d) := rfl
theorem Sys2Proof.Laws.Length.rrR (r : Sys2Proof.Reg8) : Sys2Proof.Laws.Length.Statement (.rrR r) := rfl
theorem Sys2Proof.Laws.Length.rrHl : Sys2Proof.Laws.Length.Statement (.rrHl) := rfl
theorem Sys2Proof.Laws.Length.rrIxd (d : Sys2Proof.Byte) : Sys2Proof.Laws.Length.Statement (.rrIxd d) := rfl
theorem Sys2Proof.Laws.Length.rrIyd (d : Sys2Proof.Byte) : Sys2Proof.Laws.Length.Statement (.rrIyd d) := rfl
theorem Sys2Proof.Laws.Length.slaR (r : Sys2Proof.Reg8) : Sys2Proof.Laws.Length.Statement (.slaR r) := rfl
theorem Sys2Proof.Laws.Length.slaHl : Sys2Proof.Laws.Length.Statement (.slaHl) := rfl
theorem Sys2Proof.Laws.Length.slaIxd (d : Sys2Proof.Byte) : Sys2Proof.Laws.Length.Statement (.slaIxd d) := rfl
theorem Sys2Proof.Laws.Length.slaIyd (d : Sys2Proof.Byte) : Sys2Proof.Laws.Length.Statement (.slaIyd d) := rfl
theorem Sys2Proof.Laws.Length.sraR (r : Sys2Proof.Reg8) : Sys2Proof.Laws.Length.Statement (.sraR r) := rfl
theorem Sys2Proof.Laws.Length.sraHl : Sys2Proof.Laws.Length.Statement (.sraHl) := rfl
theorem Sys2Proof.Laws.Length.sraIxd (d : Sys2Proof.Byte) : Sys2Proof.Laws.Length.Statement (.sraIxd d) := rfl
theorem Sys2Proof.Laws.Length.sraIyd (d : Sys2Proof.Byte) : Sys2Proof.Laws.Length.Statement (.sraIyd d) := rfl
theorem Sys2Proof.Laws.Length.sllR (r : Sys2Proof.Reg8) : Sys2Proof.Laws.Length.Statement (.sllR r) := rfl
theorem Sys2Proof.Laws.Length.sllHl : Sys2Proof.Laws.Length.Statement (.sllHl) := rfl
theorem Sys2Proof.Laws.Length.sllIxd (d : Sys2Proof.Byte) : Sys2Proof.Laws.Length.Statement (.sllIxd d) := rfl
theorem Sys2Proof.Laws.Length.sllIyd (d : Sys2Proof.Byte) : Sys2Proof.Laws.Length.Statement (.sllIyd d) := rfl
theorem Sys2Proof.Laws.Length.srlR (r : Sys2Proof.Reg8) : Sys2Proof.Laws.Length.Statement (.srlR r) := rfl
theorem Sys2Proof.Laws.Length.srlHl : Sys2Proof.Laws.Length.Statement (.srlHl) := rfl
theorem Sys2Proof.Laws.Length.srlIxd (d : Sys2Proof.Byte) : Sys2Proof.Laws.Length.Statement (.srlIxd d) := rfl
theorem Sys2Proof.Laws.Length.srlIyd (d : Sys2Proof.Byte) : Sys2Proof.Laws.Length.Statement (.srlIyd d) := rfl
theorem Sys2Proof.Laws.Length.rld : Sys2Proof.Laws.Length.Statement (.rld) := rfl
theorem Sys2Proof.Laws.Length.rrd : Sys2Proof.Laws.Length.Statement (.rrd) := rfl
theorem Sys2Proof.Laws.Length.bitBR (b : Fin 8) (r : Sys2Proof.Reg8) : Sys2Proof.Laws.Length.Statement (.bitBR b r) := rfl
theorem Sys2Proof.Laws.Length.bitBHl (b : Fin 8) : Sys2Proof.Laws.Length.Statement (.bitBHl b) := rfl
theorem Sys2Proof.Laws.Length.bitBIxd (d : Sys2Proof.Byte) (b : Fin 8) : Sys2Proof.Laws.Length.Statement (.bitBIxd d b) := rfl
theorem Sys2Proof.Laws.Length.bitBIyd (d : Sys2Proof.Byte) (b : Fin 8) : Sys2Proof.Laws.Length.Statement (.bitBIyd d b) := rfl
theorem Sys2Proof.Laws.Length.setBR (b : Fin 8) (r : Sys2Proof.Reg8) : Sys2Proof.Laws.Length.Statement (.setBR b r) := rfl
theorem Sys2Proof.Laws.Length.setBHl (b : Fin 8) : Sys2Proof.Laws.Length.Statement (.setBHl b) := rfl
theorem Sys2Proof.Laws.Length.setBIxd (d : Sys2Proof.Byte) (b : Fin 8) : Sys2Proof.Laws.Length.Statement (.setBIxd d b) := rfl
theorem Sys2Proof.Laws.Length.setBIyd (d : Sys2Proof.Byte) (b : Fin 8) : Sys2Proof.Laws.Length.Statement (.setBIyd d b) := rfl
theorem Sys2Proof.Laws.Length.resBR (b : Fin 8) (r : Sys2Proof.Reg8) : Sys2Proof.Laws.Length.Statement (.resBR b r) := rfl
theorem Sys2Proof.Laws.Length.resBHl (b : Fin 8) : Sys2Proof.Laws.Length.Statement (.resBHl b) := rfl
theorem Sys2Proof.Laws.Length.resBIxd (d : Sys2Proof.Byte) (b : Fin 8) : Sys2Proof.Laws.Length.Statement (.resBIxd d b) := rfl
theorem Sys2Proof.Laws.Length.resBIyd (d : Sys2Proof.Byte) (b : Fin 8) : Sys2Proof.Laws.Length.Statement (.resBIyd d b) := rfl
theorem Sys2Proof.Laws.Length.jpNn (nn : Sys2Proof.Word) : Sys2Proof.Laws.Length.Statement (.jpNn nn) := rfl
theorem Sys2Proof.Laws.Length.jpCcNn (cc : Sys2Proof.Cond) (nn : Sys2Proof.Word) : Sys2Proof.Laws.Length.Statement (.jpCcNn cc nn) := rfl
theorem Sys2Proof.Laws.Length.jrE (e : Sys2Proof.Byte) : Sys2Proof.Laws.Length.Statement (.jrE e) := rfl
theorem Sys2Proof.Laws.Length.jrCcE (cc : Sys2Proof.JrCond) (e : Sys2Proof.Byte) : Sys2Proof.Laws.Length.Statement (.jrCcE cc e) := rfl
theorem Sys2Proof.Laws.Length.jpHl : Sys2Proof.Laws.Length.Statement (.jpHl) := rfl
theorem Sys2Proof.Laws.Length.jpIx : Sys2Proof.Laws.Length.Statement (.jpIx) := rfl
theorem Sys2Proof.Laws.Length.jpIy : Sys2Proof.Laws.Length.Statement (.jpIy) := rfl
theorem Sys2Proof.Laws.Length.djnzE (e : Sys2Proof.Byte) : Sys2Proof.Laws.Length.Statement (.djnzE e) := rfl
theorem Sys2Proof.Laws.Length.callNn (nn : Sys2Proof.Word) : Sys2Proof.Laws.Length.Statement (.callNn nn) := rfl
theorem Sys2Proof.Laws.Length.callCcNn (cc : Sys2Proof.Cond) (nn : Sys2Proof.Word) : Sys2Proof.Laws.Length.Statement (.callCcNn cc nn) := rfl
theorem Sys2Proof.Laws.Length.rstP (t : Fin 8) : Sys2Proof.Laws.Length.Statement (.rstP t) := rfl
theorem Sys2Proof.Laws.Length.ret : Sys2Proof.Laws.Length.Statement (.ret) := rfl
theorem Sys2Proof.Laws.Length.retCc (cc : Sys2Proof.Cond) : Sys2Proof.Laws.Length.Statement (.retCc cc) := rfl
theorem Sys2Proof.Laws.Length.reti : Sys2Proof.Laws.Length.Statement (.reti) := rfl
theorem Sys2Proof.Laws.Length.retn : Sys2Proof.Laws.Length.Statement (.retn) := rfl
theorem Sys2Proof.Laws.Length.inAN (n : Sys2Proof.Byte) : Sys2Proof.Laws.Length.Statement (.inAN n) := rfl
theorem Sys2Proof.Laws.Length.inRC (r : Sys2Proof.Reg8) : Sys2Proof.Laws.Length.Statement (.inRC r) := rfl
theorem Sys2Proof.Laws.Length.ini : Sys2Proof.Laws.Length.Statement (.ini) := rfl
theorem Sys2Proof.Laws.Length.inir : Sys2Proof.Laws.Length.Statement (.inir) := rfl
theorem Sys2Proof.Laws.Length.ind : Sys2Proof.Laws.Length.Statement (.ind) := rfl
theorem Sys2Proof.Laws.Length.indr : Sys2Proof.Laws.Length.Statement (.indr) := rfl
theorem Sys2Proof.Laws.Length.outNA (n : Sys2Proof.Byte) : Sys2Proof.Laws.Length.Statement (.outNA n) := rfl
theorem Sys2Proof.Laws.Length.outCR (r : Sys2Proof.Reg8) : Sys2Proof.Laws.Length.Statement (.outCR r) := rfl
theorem Sys2Proof.Laws.Length.outi : Sys2Proof.Laws.Length.Statement (.outi) := rfl
theorem Sys2Proof.Laws.Length.otir : Sys2Proof.Laws.Length.Statement (.otir) := rfl
theorem Sys2Proof.Laws.Length.outd : Sys2Proof.Laws.Length.Statement (.outd) := rfl
theorem Sys2Proof.Laws.Length.otdr : Sys2Proof.Laws.Length.Statement (.otdr) := rfl
end

