-- ==== Sys2Proof/Laws/Step.lean ====
section
/-! SUPPORT. What one step can be: one lemma for `step`, one for each event. -/

namespace Sys2Proof.Machine

theorem step_running {s : State} (h : s.status = .running) : step s = loopStep s := by simp [step, h]

theorem step_exited {s : State} (h : s.status = .exited) : step s = .refused .exited := by simp [step, h]

theorem step_faulted {s : State} {f : Fault} (h : s.status = .faulted f) : step s = .fault f := by simp [step, h]

/-- Only a running machine has a next step (R126). -/
theorem running_of_step {s t : State} (h : step s = .next t) : s.status = .running := by
  unfold step at h
  split at h
  · assumption
  · cases h
  · cases h

/-- The event of a machine with no interrupt to accept and not halted is decided by `PC` alone (R1310, R1311). -/
theorem nextEvent_plain {s : State} (hn : s.nmiPending = false) (hi : s.intRequest = none) (hh : s.cpu.halt = false) :
    nextEvent s =
      match trapKind s.cfg.biosBase s.cpu.pc with
      | .exit => .exit
      | .bdos => .bdos
      | .bios slot => .bios slot
      | .none => .instruction := by
  simp only [nextEvent, hn, hi, hh]
  cases trapKind s.cfg.biosBase s.cpu.pc <;> rfl

/-- With interrupts not modelled none is pending and none is accepted (R1502). -/
theorem no_interrupts {s : State} (h : s.cfg.interruptsModeled = false) :
    s.nmiPending = false ∧ s.intRequest = none := by
  simp [State.nmiPending, State.intRequest, h]

end Sys2Proof.Machine
end

