-- ==== Sys2Proof/Tests/Slice0.lean ====
section
/-!
SUPPORT. Tests: ill-formed terms, one encoding of every row, single steps with the results of spec/95_test_vectors.md, and a
witness for the hypotheses of each statement.
-/

namespace Sys2Proof.Machine

/-! ## Well-formedness: what a load between an index half and a register may not be (R419, R311) -/

theorem test_ix_load_without_half_refused : (Instr.ldIxHalves .b .c).wf = false := by decide
theorem test_iy_load_without_half_refused : (Instr.ldIyHalves .a .a).wf = false := by decide
theorem test_index_load_with_half_accepted :
    (Instr.ldIxHalves .b .lo).wf = true ∧ (Instr.ldIyHalves .hi .a).wf = true := by decide

/-! ## Decoding: for every row the bytes of spec/opcode_table.json, with operands put in by hand -/

/-- Each byte string is read as its instruction, to the last byte. -/
def decodesTo (rows : List (List Byte × Instr)) : Bool := rows.all fun p => decodeExact p.1 == some p.2

theorem test_decode_control_1 :
    decodesTo [([0x00], .nop), ([0x27], .daa), ([0x2F], .cpl), ([0x37], .scf), ([0x3F], .ccf), ([0x76], .halt),
      ([0xF3], .di), ([0xFB], .ei)] = true := by decide
theorem test_decode_control_2 :
    decodesTo [([0xED, 0x44], .neg), ([0xED, 0x46], .im0), ([0xED, 0x56], .im1), ([0xED, 0x5E], .im2)] = true := by decide
theorem test_decode_load_1 :
    decodesTo [([0x01, 0x34, 0x12], .ldDdNn .bc 0x1234), ([0x02], .ldBcA), ([0x12], .ldDeA),
      ([0x22, 0x34, 0x12], .ldMemHl 0x1234), ([0x32, 0x34, 0x12], .ldNnA 0x1234), ([0x0A], .ldABc), ([0x1A], .ldADe),
      ([0x2A, 0x34, 0x12], .ldHlMem 0x1234)] = true := by decide
theorem test_decode_load_2 :
    decodesTo [([0x3A, 0x34, 0x12], .ldANn 0x1234), ([0x3E, 0x81], .ldRN .a 0x81), ([0x36, 0x81], .ldHlN 0x81),
      ([0x78], .ldRR .a .b), ([0x6E], .ldRHl .l), ([0x72], .ldHlR .d), ([0xE1], .popQq .hl), ([0xF9], .ldSpHl)] = true := by decide
theorem test_decode_load_3 :
    decodesTo [([0xD5], .pushQq .de), ([0xED, 0x63, 0x34, 0x12], .ldMemDd 0x1234 .hl),
      ([0xED, 0x7B, 0x34, 0x12], .ldDdMem .sp 0x1234), ([0xED, 0x47], .ldIA), ([0xED, 0x4F], .ldRefreshA),
      ([0xED, 0x57], .ldAI), ([0xED, 0x5F], .ldARefresh), ([0xDD, 0x21, 0x34, 0x12], .ldIxNn 0x1234)] = true := by decide
theorem test_decode_load_4 :
    decodesTo [([0xDD, 0x22, 0x34, 0x12], .ldMemIx 0x1234), ([0xDD, 0x2A, 0x34, 0x12], .ldIxMem 0x1234),
      ([0xDD, 0x26, 0x81], .ldIxhN .hi 0x81), ([0xDD, 0x36, 0xFE, 0x81], .ldIxdN 0xFE 0x81),
      ([0xDD, 0x66, 0xFE], .ldRIxd .h 0xFE), ([0xDD, 0x71, 0xFE], .ldIxdR 0xFE .c),
      ([0xDD, 0x61], .ldIxHalves .hi .c), ([0xDD, 0xE1], .popIx)] = true := by decide
theorem test_decode_load_5 :
    decodesTo [([0xDD, 0xE5], .pushIx), ([0xDD, 0xF9], .ldSpIx), ([0xFD, 0x21, 0x34, 0x12], .ldIyNn 0x1234),
      ([0xFD, 0x22, 0x34, 0x12], .ldMemIy 0x1234), ([0xFD, 0x2A, 0x34, 0x12], .ldIyMem 0x1234),
      ([0xFD, 0x26, 0x81], .ldIyhN .hi 0x81), ([0xFD, 0x36, 0xFE, 0x81], .ldIydN 0xFE 0x81),
      ([0xFD, 0x66, 0xFE], .ldRIyd .h 0xFE)] = true := by decide
theorem test_decode_load_6 :
    decodesTo [([0xFD, 0x71, 0xFE], .ldIydR 0xFE .c), ([0xFD, 0x7D], .ldIyHalves .a .lo), ([0xFD, 0xE1], .popIy),
      ([0xFD, 0xE5], .pushIy), ([0xFD, 0xF9], .ldSpIy)] = true := by decide
theorem test_decode_alu16_1 :
    decodesTo [([0x39], .addHlSs .sp), ([0x23], .incSs .hl), ([0x2B], .decSs .hl), ([0xED, 0x72], .sbcHlSs .sp),
      ([0xED, 0x7A], .adcHlSs .sp), ([0xDD, 0x39], .addIxPp .sp), ([0xDD, 0x23], .incIx), ([0xDD, 0x2B], .decIx)] = true := by decide
theorem test_decode_alu16_2 :
    decodesTo [([0xFD, 0x39], .addIyPp .sp), ([0xFD, 0x23], .incIy), ([0xFD, 0x2B], .decIy)] = true := by decide
theorem test_decode_alu8_1 :
    decodesTo [([0x1C], .incR .e), ([0x34], .incHl), ([0x1D], .decR .e), ([0x35], .decHl), ([0x83], .addR .e),
      ([0x86], .addHl), ([0xC6, 0x81], .addN 0x81), ([0x8B], .adcR .e)] = true := by decide
theorem test_decode_alu8_2 :
    decodesTo [([0x8E], .adcHl), ([0xCE, 0x81], .adcN 0x81), ([0x94], .subR .h), ([0x96], .subHl),
      ([0xD6, 0x81], .subN 0x81), ([0x9B], .sbcR .e), ([0x9E], .sbcHl), ([0xDE, 0x81], .sbcN 0x81)] = true := by decide
theorem test_decode_alu8_3 :
    decodesTo [([0xA4], .andR .h), ([0xA6], .andHl), ([0xE6, 0x81], .andN 0x81), ([0xAC], .xorR .h),
      ([0xAE], .xorHl), ([0xEE, 0x81], .xorN 0x81), ([0xB1], .orR .c), ([0xB6], .orHl)] = true := by decide
theorem test_decode_alu8_4 :
    decodesTo [([0xF6, 0x81], .orN 0x81), ([0xB9], .cpR .c), ([0xBE], .cpHl), ([0xFE, 0x81], .cpN 0x81),
      ([0xDD, 0x2C], .incIxh .lo), ([0xDD, 0x2D], .decIxh .lo), ([0xDD, 0x34, 0xFE], .incIxd 0xFE),
      ([0xDD, 0x35, 0xFE], .decIxd 0xFE)] = true := by decide
theorem test_decode_alu8_5 :
    decodesTo [([0xDD, 0x86, 0xFE], .addIxd 0xFE), ([0xDD, 0x84], .addIxh .hi), ([0xDD, 0x8E, 0xFE], .adcIxd 0xFE),
      ([0xDD, 0x8C], .adcIxh .hi), ([0xDD, 0x96, 0xFE], .subIxd 0xFE), ([0xDD, 0x94], .subIxh .hi),
      ([0xDD, 0x9E, 0xFE], .sbcIxd 0xFE), ([0xDD, 0x9C], .sbcIxh .hi)] = true := by decide
theorem test_decode_alu8_6 :
    decodesTo [([0xDD, 0xA6, 0xFE], .andIxd 0xFE), ([0xDD, 0xA4], .andIxh .hi), ([0xDD, 0xAE, 0xFE], .xorIxd 0xFE),
      ([0xDD, 0xAC], .xorIxh .hi), ([0xDD, 0xB6, 0xFE], .orIxd 0xFE), ([0xDD, 0xB5], .orIxh .lo),
      ([0xDD, 0xBE, 0xFE], .cpIxd 0xFE), ([0xDD, 0xBD], .cpIxh .lo)] = true := by decide
theorem test_decode_alu8_7 :
    decodesTo [([0xFD, 0x2C], .incIyh .lo), ([0xFD, 0x2D], .decIyh .lo), ([0xFD, 0x34, 0xFE], .incIyd 0xFE),
      ([0xFD, 0x35, 0xFE], .decIyd 0xFE), ([0xFD, 0x86, 0xFE], .addIyd 0xFE), ([0xFD, 0x84], .addIyh .hi),
      ([0xFD, 0x8E, 0xFE], .adcIyd 0xFE), ([0xFD, 0x8C], .adcIyh .hi)] = true := by decide
theorem test_decode_alu8_8 :
    decodesTo [([0xFD, 0x96, 0xFE], .subIyd 0xFE), ([0xFD, 0x94], .subIyh .hi), ([0xFD, 0x9E, 0xFE], .sbcIyd 0xFE),
      ([0xFD, 0x9C], .sbcIyh .hi), ([0xFD, 0xA6, 0xFE], .andIyd 0xFE), ([0xFD, 0xA4], .andIyh .hi),
      ([0xFD, 0xAE, 0xFE], .xorIyd 0xFE), ([0xFD, 0xAC], .xorIyh .hi)] = true := by decide
theorem test_decode_alu8_9 :
    decodesTo [([0xFD, 0xB6, 0xFE], .orIyd 0xFE), ([0xFD, 0xB5], .orIyh .lo), ([0xFD, 0xBE, 0xFE], .cpIyd 0xFE),
      ([0xFD, 0xBD], .cpIyh .lo)] = true := by decide
theorem test_decode_rotate_1 :
    decodesTo [([0x07], .rlca), ([0x0F], .rrca), ([0x17], .rla), ([0x1F], .rra), ([0xCB, 0x04], .rlcR .h),
      ([0xCB, 0x06], .rlcHl), ([0xCB, 0x0C], .rrcR .h), ([0xCB, 0x0E], .rrcHl)] = true := by decide
theorem test_decode_rotate_2 :
    decodesTo [([0xCB, 0x11], .rlR .c), ([0xCB, 0x16], .rlHl), ([0xCB, 0x19], .rrR .c), ([0xCB, 0x1E], .rrHl),
      ([0xCB, 0x24], .slaR .h), ([0xCB, 0x26], .slaHl), ([0xCB, 0x2C], .sraR .h), ([0xCB, 0x2E], .sraHl)] = true := by decide
theorem test_decode_rotate_3 :
    decodesTo [([0xCB, 0x34], .sllR .h), ([0xCB, 0x36], .sllHl), ([0xCB, 0x3C], .srlR .h), ([0xCB, 0x3E], .srlHl),
      ([0xED, 0x67], .rrd), ([0xED, 0x6F], .rld), ([0xDD, 0xCB, 0xFE, 0x06], .rlcIxd 0xFE),
      ([0xDD, 0xCB, 0xFE, 0x0E], .rrcIxd 0xFE)] = true := by decide
theorem test_decode_rotate_4 :
    decodesTo [([0xDD, 0xCB, 0xFE, 0x16], .rlIxd 0xFE), ([0xDD, 0xCB, 0xFE, 0x1E], .rrIxd 0xFE),
      ([0xDD, 0xCB, 0xFE, 0x26], .slaIxd 0xFE), ([0xDD, 0xCB, 0xFE, 0x2E], .sraIxd 0xFE),
      ([0xDD, 0xCB, 0xFE, 0x36], .sllIxd 0xFE), ([0xDD, 0xCB, 0xFE, 0x3E], .srlIxd 0xFE),
      ([0xFD, 0xCB, 0xFE, 0x06], .rlcIyd 0xFE), ([0xFD, 0xCB, 0xFE, 0x0E], .rrcIyd 0xFE)] = true := by decide
theorem test_decode_rotate_5 :
    decodesTo [([0xFD, 0xCB, 0xFE, 0x16], .rlIyd 0xFE), ([0xFD, 0xCB, 0xFE, 0x1E], .rrIyd 0xFE),
      ([0xFD, 0xCB, 0xFE, 0x26], .slaIyd 0xFE), ([0xFD, 0xCB, 0xFE, 0x2E], .sraIyd 0xFE),
      ([0xFD, 0xCB, 0xFE, 0x36], .sllIyd 0xFE), ([0xFD, 0xCB, 0xFE, 0x3E], .srlIyd 0xFE)] = true := by decide
theorem test_decode_exchange_1 :
    decodesTo [([0x08], .exAfAf), ([0xD9], .exx), ([0xE3], .exSpHl), ([0xEB], .exDeHl), ([0xED, 0xA0], .ldi),
      ([0xED, 0xA1], .cpi), ([0xED, 0xA8], .ldd), ([0xED, 0xA9], .cpd)] = true := by decide
theorem test_decode_exchange_2 :
    decodesTo [([0xED, 0xB0], .ldir), ([0xED, 0xB1], .cpir), ([0xED, 0xB8], .lddr), ([0xED, 0xB9], .cpdr),
      ([0xDD, 0xE3], .exSpIx), ([0xFD, 0xE3], .exSpIy)] = true := by decide
theorem test_decode_jump_1 :
    decodesTo [([0x10, 0xF0], .djnzE 0xF0), ([0x18, 0xF0], .jrE 0xF0), ([0x20, 0xF0], .jrCcE .nz 0xF0),
      ([0xE8], .retCc .pe), ([0xC9], .ret), ([0xE9], .jpHl), ([0xDA, 0x34, 0x12], .jpCcNn .c 0x1234),
      ([0xC3, 0x34, 0x12], .jpNn 0x1234)] = true := by decide
theorem test_decode_jump_2 :
    decodesTo [([0xCC, 0x34, 0x12], .callCcNn .z 0x1234), ([0xCD, 0x34, 0x12], .callNn 0x1234), ([0xDF], .rstP 3),
      ([0xED, 0x45], .retn), ([0xED, 0x4D], .reti), ([0xDD, 0xE9], .jpIx), ([0xFD, 0xE9], .jpIy)] = true := by decide
theorem test_decode_io_1 :
    decodesTo [([0xD3, 0x81], .outNA 0x81), ([0xDB, 0x81], .inAN 0x81), ([0xED, 0x50], .inRC .d),
      ([0xED, 0x49], .outCR .c), ([0xED, 0xA2], .ini), ([0xED, 0xA3], .outi), ([0xED, 0xAA], .ind),
      ([0xED, 0xAB], .outd)] = true := by decide
theorem test_decode_io_2 :
    decodesTo [([0xED, 0xB2], .inir), ([0xED, 0xB3], .otir), ([0xED, 0xBA], .indr), ([0xED, 0xBB], .otdr)] = true := by decide
theorem test_decode_bit_1 :
    decodesTo [([0xCB, 0x7B], .bitBR 7 .e), ([0xCB, 0x6E], .bitBHl 5), ([0xCB, 0xBB], .resBR 7 .e),
      ([0xCB, 0xAE], .resBHl 5), ([0xCB, 0xFB], .setBR 7 .e), ([0xCB, 0xEE], .setBHl 5),
      ([0xDD, 0xCB, 0xFE, 0x5E], .bitBIxd 0xFE 3), ([0xDD, 0xCB, 0xFE, 0x9E], .resBIxd 0xFE 3)] = true := by decide
theorem test_decode_bit_2 :
    decodesTo [([0xDD, 0xCB, 0xFE, 0xDE], .setBIxd 0xFE 3), ([0xFD, 0xCB, 0xFE, 0x5E], .bitBIyd 0xFE 3),
      ([0xFD, 0xCB, 0xFE, 0x9E], .resBIyd 0xFE 3), ([0xFD, 0xCB, 0xFE, 0xDE], .setBIyd 0xFE 3)] = true := by decide

/-- R311: encodings with no row, one of each kind it lists. -/
theorem test_decode_refuses :
    ([[0xED, 0x3F], [0xED, 0x4C], [0xED, 0x7F], [0xED, 0xA4], [0xED, 0xBC], [0xED, 0xFF], [0xDD, 0x00], [0xDD, 0x76],
      [0xDD, 0xEB], [0xDD, 0xD9], [0xDD, 0xDD, 0x21, 0x00], [0xFD, 0xED, 0xB0], [0xDD, 0xCB, 0x00, 0x00],
      [0xFD, 0xCB, 0x05, 0x37]].all fun bs => decodeExact bs == none) = true := by decide

/-! ## Single steps: the vectors of spec/95_test_vectors.md, from its start state -/

/-- The start state of the vectors (95_test_vectors.md section 2), `f` applied to its registers, with `code` at `PC` and the
bytes `cells`. -/
def startAt (code : List Byte) (f : Cpu → Cpu) (cells : List (Word × Byte)) : State :=
  let c := f { Cpu.reset with pc := 0x0200, sp := 0xEFFE }
  { State.reset with cpu := c, mem := cells.foldl (fun m p => m.write p.1 p.2) (Memory.writeBytes [] c.pc code) }

/-- A state whose host raises interrupts. -/
def interruptible (s : State) : State := { s with cfg := { s.cfg with interruptsModeled := true } }

/-- One step goes to a next state that meets `p`. -/
def ends (s : State) (p : State → Bool) : Bool :=
  match step s with
  | .next t => p t
  | _ => false

/-- The drives of the BDOS vectors: `A` with HELLO.COM and WORLD.TXT, `B` empty. -/
def drives : List HostDir :=
  [{ letter := 0x41, files :=
       [{ name := [0x48, 0x45, 0x4C, 0x4C, 0x4F, 0x2E, 0x43, 0x4F, 0x4D], data := (List.range 200).map (BitVec.ofNat 8) },
        { name := [0x57, 0x4F, 0x52, 0x4C, 0x44, 0x2E, 0x54, 0x58, 0x54], data := List.replicate 10 0x57 }] },
   { letter := 0x42, files := [] }]

/-- The ports of the V48 vectors: each answers its byte to every read, and every other port reads 0xFF. -/
def portTable : List PortAnswer :=
  [⟨some 0x00FE, 0x80, true⟩, ⟨some 0x0110, 0x22, true⟩, ⟨some 0x0210, 0x11, true⟩, ⟨some 0x0310, 0x81, true⟩,
   ⟨some 0x0710, 0x00, true⟩, ⟨some 0x1234, 0x5A, true⟩, ⟨none, 0xFF, true⟩]

/-- 95_test_vectors.md V30-2: ED 4C NEG mirror ED 4C. -/
theorem test_v30_2 :
    ends (startAt [0xED, 0x4C] (fun c => { c with a := 0x01 }) [])
      (fun t => t.cpu.pc == 0x0200 && t.cpu.f == 0x00 && t.status == .faulted (.unsupportedOpcode 0x0200 [0xED, 0x4C, 0x00, 0x00])) = true := by decide

/-- 95_test_vectors.md V30-5: DD CB 00 00 DD CB d op with op[2:0] != 110. -/
theorem test_v30_5 :
    ends (startAt [0xDD, 0xCB, 0x00, 0x00] id [])
      (fun t => t.cpu.pc == 0x0200 && t.cpu.f == 0x00 && t.status == .faulted (.unsupportedOpcode 0x0200 [0xDD, 0xCB, 0x00, 0x00])) = true := by decide

/-- 95_test_vectors.md V30-6: DD 21 34 12 DD 21 nn (LD IX,nn) at 0xFFFE. -/
theorem test_v30_6 :
    ends (startAt [0xDD, 0x21, 0x34, 0x12] (fun c => { c with pc := 0xFFFE }) [])
      (fun t => t.cpu.ix == 0x1234 && t.cpu.pc == 0x0002 && t.cpu.f == 0x00) = true := by decide

/-- 95_test_vectors.md V40-5: 66 LD H,(HL). -/
theorem test_v40_5 :
    ends (startAt [0x66] (fun c => { c with h := 0x30, l := 0x00 }) [(0x3000, 0x12)])
      (fun t => t.cpu.h == 0x12 && t.cpu.l == 0x00 && t.cpu.pc == 0x0201 && t.cpu.f == 0x00) = true := by decide

/-- 95_test_vectors.md V40-7: FD 4E 80 LD C,(IY-80H). -/
theorem test_v40_7 :
    ends (startAt [0xFD, 0x4E, 0x80] (fun c => { c with iy := 0x3080 }) [(0x3000, 0x5C)])
      (fun t => t.cpu.b == 0x00 && t.cpu.c == 0x5C && t.cpu.pc == 0x0203 && t.cpu.f == 0x00) = true := by decide

/-- 95_test_vectors.md V40-9: DD 7E FF LD A,(IX-1). -/
theorem test_v40_9 :
    ends (startAt [0xDD, 0x7E, 0xFF] (fun c => { c with ix := 0x0000 }) [(0xFFFF, 0x9E)])
      (fun t => t.cpu.a == 0x9E && t.cpu.pc == 0x0203 && t.cpu.f == 0x00) = true := by decide

/-- 95_test_vectors.md V40-12: DD 77 FE LD (IX-2),A. -/
theorem test_v40_12 :
    ends (startAt [0xDD, 0x77, 0xFE] (fun c => { c with ix := 0x3002, a := 0x5A }) [])
      (fun t => t.cpu.pc == 0x0203 && t.cpu.f == 0x00 && t.peek 0x3000 == 0x5A) = true := by decide

/-- 95_test_vectors.md V40-15: DD 36 05 5A LD (IX+5),n. -/
theorem test_v40_15 :
    ends (startAt [0xDD, 0x36, 0x05, 0x5A] (fun c => { c with ix := 0x3000 }) [])
      (fun t => t.cpu.pc == 0x0204 && t.cpu.f == 0x00 && t.peek 0x3005 == 0x5A) = true := by decide

/-- 95_test_vectors.md V40-23: ED 57 LD A,I. -/
theorem test_v40_23 :
    ends (startAt [0xED, 0x57] (fun c => { c with i := 0x00, iff2 := false, f := 0x00 }) [])
      (fun t => t.cpu.pc == 0x0202 && t.cpu.f == 0x40) = true := by decide

/-- 95_test_vectors.md V40-24: ED 5F LD A,R. -/
theorem test_v40_24 :
    ends (startAt [0xED, 0x5F] (fun c => { c with r := 0x7E }) [])
      (fun t => t.cpu.pc == 0x0202 && t.cpu.f == 0x40 && t.cpu.r == 0x00) = true := by decide

/-- 95_test_vectors.md V40-27: ED 4F LD R,A. -/
theorem test_v40_27 :
    ends (startAt [0xED, 0x4F] (fun c => { c with a := 0x80 }) [])
      (fun t => t.cpu.pc == 0x0202 && t.cpu.f == 0x00 && t.cpu.r == 0x80) = true := by decide

/-- 95_test_vectors.md V40-28: DD 60 LD IXH,B. -/
theorem test_v40_28 :
    ends (startAt [0xDD, 0x60] (fun c => { c with b := 0x12, ix := 0x3456 }) [])
      (fun t => t.cpu.ix == 0x1256 && t.cpu.pc == 0x0202 && t.cpu.f == 0x00) = true := by decide

/-- 95_test_vectors.md V40-30: DD 2E 99 LD IXL,n. -/
theorem test_v40_30 :
    ends (startAt [0xDD, 0x2E, 0x99] (fun c => { c with ix := 0x3456 }) [])
      (fun t => t.cpu.ix == 0x3499 && t.cpu.pc == 0x0203 && t.cpu.f == 0x00) = true := by decide

/-- 95_test_vectors.md V40-35: 2A FF FF LD HL,(FFFFH). -/
theorem test_v40_35 :
    ends (startAt [0x2A, 0xFF, 0xFF] id [(0x0000, 0x12), (0xFFFF, 0x34)])
      (fun t => t.cpu.h == 0x12 && t.cpu.l == 0x34 && t.cpu.pc == 0x0203 && t.cpu.f == 0x00) = true := by decide

/-- 95_test_vectors.md V40-40: 22 FF FF LD (FFFFH),HL. -/
theorem test_v40_40 :
    ends (startAt [0x22, 0xFF, 0xFF] (fun c => { c with h := 0xAB, l := 0xCD }) [])
      (fun t => t.cpu.pc == 0x0203 && t.cpu.f == 0x00 && t.peek 0x0000 == 0xAB && t.peek 0xFFFF == 0xCD) = true := by decide

/-- 95_test_vectors.md V40-42: ED 73 00 30 LD (nn),SP. -/
theorem test_v40_42 :
    ends (startAt [0xED, 0x73, 0x00, 0x30] id [])
      (fun t => t.cpu.pc == 0x0204 && t.cpu.f == 0x00 && t.peek 0x3000 == 0xFE && t.peek 0x3001 == 0xEF) = true := by decide

/-- 95_test_vectors.md V40-48: E5 PUSH HL. -/
theorem test_v40_48 :
    ends (startAt [0xE5] (fun c => { c with sp := 0x0001, h := 0xAB, l := 0xCD }) [])
      (fun t => t.cpu.sp == 0xFFFF && t.cpu.pc == 0x0201 && t.cpu.f == 0x00 && t.peek 0x0000 == 0xAB &&
        t.peek 0xFFFF == 0xCD) = true := by decide

/-- 95_test_vectors.md V40-51: F1 POP AF. -/
theorem test_v40_51 :
    ends (startAt [0xF1] id [(0xEFFE, 0x28), (0xEFFF, 0x99)])
      (fun t => t.cpu.a == 0x99 && t.cpu.sp == 0xF000 && t.cpu.pc == 0x0201 && t.cpu.f == 0x28) = true := by decide

/-- 95_test_vectors.md V40-52: C1 POP BC. -/
theorem test_v40_52 :
    ends (startAt [0xC1] (fun c => { c with sp := 0xFFFF }) [(0x0000, 0x22), (0xFFFF, 0x11)])
      (fun t => t.cpu.b == 0x22 && t.cpu.c == 0x11 && t.cpu.sp == 0x0001 && t.cpu.pc == 0x0201 &&
        t.cpu.f == 0x00) = true := by decide

/-- 95_test_vectors.md V41-2: 08 EX AF,AF'. -/
theorem test_v41_2 :
    ends (startAt [0x08] (fun c => { c with a := 0x12, f := 0x34, alt := { c.alt with a := 0x56, f := 0x78 } }) [])
      (fun t => t.cpu.a == 0x56 && t.cpu.alt.a == 0x12 && t.cpu.alt.f == 0x34 && t.cpu.pc == 0x0201 &&
        t.cpu.f == 0x78) = true := by decide

/-- 95_test_vectors.md V41-4: E3 EX (SP),HL. -/
theorem test_v41_4 :
    ends (startAt [0xE3] (fun c => { c with h := 0x12, l := 0x34 }) [(0xEFFE, 0x78), (0xEFFF, 0x56)])
      (fun t => t.cpu.h == 0x56 && t.cpu.l == 0x78 && t.cpu.pc == 0x0201 && t.cpu.f == 0x00 &&
        t.peek 0xEFFE == 0x34 && t.peek 0xEFFF == 0x12) = true := by decide

/-- 95_test_vectors.md V41-6: ED A0 LDI. -/
theorem test_v41_6 :
    ends (startAt [0xED, 0xA0]
        (fun c => { c with h := 0x30, l := 0x00, d := 0x40, e := 0x00, b := 0x00, c := 0x02, a := 0x00, f := 0xC1 })
        [(0x3000, 0x08)])
      (fun t => t.cpu.b == 0x00 && t.cpu.c == 0x01 && t.cpu.d == 0x40 && t.cpu.e == 0x01 &&
        t.cpu.h == 0x30 && t.cpu.l == 0x01 && t.cpu.pc == 0x0202 && t.cpu.f == 0xCD &&
        t.peek 0x4000 == 0x08) = true := by decide

/-- 95_test_vectors.md V41-8: ED B0 LDIR, BC=2, first iteration. -/
theorem test_v41_8 :
    ends (startAt [0xED, 0xB0]
        (fun c => { c with h := 0x30, l := 0x00, d := 0x40, e := 0x00, b := 0x00, c := 0x02 }) [(0x3000, 0xAA),
        (0x3001, 0xBB)])
      (fun t => t.cpu.b == 0x00 && t.cpu.c == 0x01 && t.cpu.d == 0x40 && t.cpu.e == 0x01 &&
        t.cpu.h == 0x30 && t.cpu.l == 0x01 && t.cpu.pc == 0x0200 && t.peek 0x4000 == 0xAA) = true := by decide

/-- 95_test_vectors.md V41-11: ED A8 LDD. -/
theorem test_v41_11 :
    ends (startAt [0xED, 0xA8]
        (fun c => { c with h := 0x30, l := 0x01, d := 0x40, e := 0x01, b := 0x00, c := 0x03 }) [(0x3001, 0x5A)])
      (fun t => t.cpu.b == 0x00 && t.cpu.c == 0x02 && t.cpu.d == 0x40 && t.cpu.e == 0x00 &&
        t.cpu.h == 0x30 && t.cpu.l == 0x00 && t.cpu.pc == 0x0202 && t.cpu.f == 0x2C &&
        t.peek 0x4001 == 0x5A) = true := by decide

/-- 95_test_vectors.md V41-13: ED A1 CPI, match. -/
theorem test_v41_13 :
    ends (startAt [0xED, 0xA1]
        (fun c => { c with a := 0x41, h := 0x30, l := 0x00, b := 0x00, c := 0x01, f := 0x01 }) [(0x3000, 0x41)])
      (fun t => t.cpu.b == 0x00 && t.cpu.c == 0x00 && t.cpu.h == 0x30 && t.cpu.l == 0x01 &&
        t.cpu.pc == 0x0202 && t.cpu.f == 0x43) = true := by decide

/-- 95_test_vectors.md V41-14: ED A1 CPI, no match. -/
theorem test_v41_14 :
    ends (startAt [0xED, 0xA1] (fun c => { c with a := 0x10, h := 0x30, l := 0x00, b := 0x00, c := 0x05 })
        [(0x3000, 0x01)])
      (fun t => t.cpu.b == 0x00 && t.cpu.c == 0x04 && t.cpu.h == 0x30 && t.cpu.l == 0x01 &&
        t.cpu.pc == 0x0202 && t.cpu.f == 0x3E) = true := by decide

/-- 95_test_vectors.md V41-18: ED B9 CPDR, finds at first. -/
theorem test_v41_18 :
    ends (startAt [0xED, 0xB9] (fun c => { c with a := 0x07, h := 0x30, l := 0x01, b := 0x00, c := 0x02 })
        [(0x3000, 0x06), (0x3001, 0x07)])
      (fun t => t.cpu.b == 0x00 && t.cpu.c == 0x01 && t.cpu.h == 0x30 && t.cpu.l == 0x00 &&
        t.cpu.pc == 0x0202 && t.cpu.f == 0x46) = true := by decide

/-- 95_test_vectors.md V42-1: 80 ADD A,B. -/
theorem test_v42_1 :
    ends (startAt [0x80] (fun c => { c with a := 0x7F, b := 0x01 }) [])
      (fun t => t.cpu.a == 0x80 && t.cpu.pc == 0x0201 && t.cpu.f == 0x94) = true := by decide

/-- 95_test_vectors.md V42-2: 80 ADD A,B. -/
theorem test_v42_2 :
    ends (startAt [0x80] (fun c => { c with a := 0xFF, b := 0x01 }) [])
      (fun t => t.cpu.a == 0x00 && t.cpu.pc == 0x0201 && t.cpu.f == 0x51) = true := by decide

/-- 95_test_vectors.md V42-9: CE 7F ADC A,n. -/
theorem test_v42_9 :
    ends (startAt [0xCE, 0x7F] (fun c => { c with a := 0x00, f := 0x01 }) [])
      (fun t => t.cpu.a == 0x80 && t.cpu.pc == 0x0202 && t.cpu.f == 0x94) = true := by decide

/-- 95_test_vectors.md V42-11: 90 SUB B. -/
theorem test_v42_11 :
    ends (startAt [0x90] (fun c => { c with a := 0x80, b := 0x01 }) [])
      (fun t => t.cpu.a == 0x7F && t.cpu.pc == 0x0201 && t.cpu.f == 0x3E) = true := by decide

/-- 95_test_vectors.md V42-16: DE 00 SBC A,n. -/
theorem test_v42_16 :
    ends (startAt [0xDE, 0x00] (fun c => { c with a := 0x00, f := 0x01 }) [])
      (fun t => t.cpu.a == 0xFF && t.cpu.pc == 0x0202 && t.cpu.f == 0xBB) = true := by decide

/-- 95_test_vectors.md V42-17: A0 AND B. -/
theorem test_v42_17 :
    ends (startAt [0xA0] (fun c => { c with a := 0xF0, b := 0x3C }) [])
      (fun t => t.cpu.a == 0x30 && t.cpu.pc == 0x0201 && t.cpu.f == 0x34) = true := by decide

/-- 95_test_vectors.md V42-19: AF XOR A. -/
theorem test_v42_19 :
    ends (startAt [0xAF] (fun c => { c with a := 0x5A, f := 0xFF }) [])
      (fun t => t.cpu.a == 0x00 && t.cpu.pc == 0x0201 && t.cpu.f == 0x44) = true := by decide

/-- 95_test_vectors.md V42-22: B6 OR (HL). -/
theorem test_v42_22 :
    ends (startAt [0xB6] (fun c => { c with a := 0x80, h := 0x30, l := 0x00 }) [(0x3000, 0x28)])
      (fun t => t.cpu.a == 0xA8 && t.cpu.pc == 0x0201 && t.cpu.f == 0xA8) = true := by decide

/-- 95_test_vectors.md V42-23: B8 CP B. -/
theorem test_v42_23 :
    ends (startAt [0xB8] (fun c => { c with a := 0x10, b := 0x28 }) [])
      (fun t => t.cpu.pc == 0x0201 && t.cpu.f == 0xBB) = true := by decide

/-- 95_test_vectors.md V42-25: BE CP (HL). -/
theorem test_v42_25 :
    ends (startAt [0xBE] (fun c => { c with a := 0x7F, h := 0x30, l := 0x00 }) [(0x3000, 0xFF)])
      (fun t => t.cpu.pc == 0x0201 && t.cpu.f == 0xAF) = true := by decide

/-- 95_test_vectors.md V42-27: 3C INC A. -/
theorem test_v42_27 :
    ends (startAt [0x3C] (fun c => { c with a := 0x7F, f := 0x01 }) [])
      (fun t => t.cpu.a == 0x80 && t.cpu.pc == 0x0201 && t.cpu.f == 0x95) = true := by decide

/-- 95_test_vectors.md V42-31: DD 2C INC IXL. -/
theorem test_v42_31 :
    ends (startAt [0xDD, 0x2C] (fun c => { c with ix := 0x12FF }) [])
      (fun t => t.cpu.ix == 0x1200 && t.cpu.pc == 0x0202 && t.cpu.f == 0x50) = true := by decide

/-- 95_test_vectors.md V42-32: 05 DEC B. -/
theorem test_v42_32 :
    ends (startAt [0x05] (fun c => { c with b := 0x80 }) [])
      (fun t => t.cpu.b == 0x7F && t.cpu.c == 0x00 && t.cpu.pc == 0x0201 && t.cpu.f == 0x3E) = true := by decide

/-- 95_test_vectors.md V42-35: FD 35 00 DEC (IY+0). -/
theorem test_v42_35 :
    ends (startAt [0xFD, 0x35, 0x00] (fun c => { c with iy := 0x3000 }) [(0x3000, 0x10)])
      (fun t => t.cpu.pc == 0x0203 && t.cpu.f == 0x1A && t.peek 0x3000 == 0x0F) = true := by decide

/-- 95_test_vectors.md V43-2: 27 DAA after 0x99+0x01. -/
theorem test_v43_2 :
    ends (startAt [0x27] (fun c => { c with a := 0x9A, f := 0x00 }) [])
      (fun t => t.cpu.a == 0x00 && t.cpu.pc == 0x0201 && t.cpu.f == 0x55) = true := by decide

/-- 95_test_vectors.md V43-3: 27 DAA after 0x10-0x01. -/
theorem test_v43_3 :
    ends (startAt [0x27] (fun c => { c with a := 0x0F, f := 0x12 }) [])
      (fun t => t.cpu.a == 0x09 && t.cpu.pc == 0x0201 && t.cpu.f == 0x0E) = true := by decide

/-- 95_test_vectors.md V43-5: 2F CPL. -/
theorem test_v43_5 :
    ends (startAt [0x2F] (fun c => { c with a := 0x5A, f := 0x00 }) [])
      (fun t => t.cpu.a == 0xA5 && t.cpu.pc == 0x0201 && t.cpu.f == 0x32) = true := by decide

/-- 95_test_vectors.md V43-7: ED 44 NEG. -/
theorem test_v43_7 :
    ends (startAt [0xED, 0x44] (fun c => { c with a := 0x80 }) [])
      (fun t => t.cpu.pc == 0x0202 && t.cpu.f == 0x87) = true := by decide

/-- 95_test_vectors.md V43-9: 3F CCF. -/
theorem test_v43_9 :
    ends (startAt [0x3F] (fun c => { c with a := 0x28, f := 0x01 }) [])
      (fun t => t.cpu.pc == 0x0201 && t.cpu.f == 0x38) = true := by decide

/-- 95_test_vectors.md V43-11: 37 SCF. -/
theorem test_v43_11 :
    ends (startAt [0x37] (fun c => { c with a := 0xFF, f := 0x12 }) [])
      (fun t => t.cpu.pc == 0x0201 && t.cpu.f == 0x29) = true := by decide

/-- 95_test_vectors.md V43-13: 76 HALT, IFF1=1. -/
theorem test_v43_13 :
    ends (startAt [0x76] (fun c => { c with iff1 := true, iff2 := true }) [])
      (fun t => t.cpu.pc == 0x0201 && t.cpu.halt && t.cpu.f == 0x00) = true := by decide

/-- 95_test_vectors.md V43-15: 76 HALT, IFF1=0. -/
theorem test_v43_15 :
    ends (startAt [0x76] id [])
      (fun t => t.cpu.pc == 0x0200 && t.cpu.f == 0x00 && t.status == .faulted (.haltWithInterruptsDisabled 0x0200 [0x76, 0x00, 0x00, 0x00])) = true := by decide

/-- 95_test_vectors.md V43-17: FB EI. -/
theorem test_v43_17 :
    ends (startAt [0xFB] id [])
      (fun t => t.cpu.pc == 0x0201 && t.cpu.iff1 == true && t.cpu.iff2 == true && t.cpu.eiDelay == true &&
        t.cpu.f == 0x00) = true := by decide

/-- 95_test_vectors.md V43-21: ED 5E IM 2. -/
theorem test_v43_21 :
    ends (startAt [0xED, 0x5E] id [])
      (fun t => t.cpu.pc == 0x0202 && t.cpu.im == .im2 && t.cpu.f == 0x00) = true := by decide

/-- 95_test_vectors.md V44-1: 09 ADD HL,BC. -/
theorem test_v44_1 :
    ends (startAt [0x09] (fun c => { c with h := 0x0F, l := 0xFF, b := 0x00, c := 0x01, f := 0xC4 }) [])
      (fun t => t.cpu.h == 0x10 && t.cpu.l == 0x00 && t.cpu.pc == 0x0201 && t.cpu.f == 0xD4) = true := by decide

/-- 95_test_vectors.md V44-2: 19 ADD HL,DE. -/
theorem test_v44_2 :
    ends (startAt [0x19] (fun c => { c with h := 0xFF, l := 0xFF, d := 0x00, e := 0x01 }) [])
      (fun t => t.cpu.h == 0x00 && t.cpu.l == 0x00 && t.cpu.pc == 0x0201 && t.cpu.f == 0x11) = true := by decide

/-- 95_test_vectors.md V44-5: ED 5A ADC HL,DE. -/
theorem test_v44_5 :
    ends (startAt [0xED, 0x5A] (fun c => { c with h := 0x7F, l := 0xFF, d := 0x00, e := 0x00, f := 0x01 }) [])
      (fun t => t.cpu.h == 0x80 && t.cpu.l == 0x00 && t.cpu.pc == 0x0202 && t.cpu.f == 0x94) = true := by decide

/-- 95_test_vectors.md V44-9: ED 42 SBC HL,BC. -/
theorem test_v44_9 :
    ends (startAt [0xED, 0x42] (fun c => { c with h := 0x80, l := 0x00, b := 0x00, c := 0x01 }) [])
      (fun t => t.cpu.h == 0x7F && t.cpu.l == 0xFF && t.cpu.pc == 0x0202 && t.cpu.f == 0x3E) = true := by decide

/-- 95_test_vectors.md V44-10: DD 29 ADD IX,IX. -/
theorem test_v44_10 :
    ends (startAt [0xDD, 0x29] (fun c => { c with ix := 0x8000 }) [])
      (fun t => t.cpu.ix == 0x0000 && t.cpu.pc == 0x0202 && t.cpu.f == 0x01) = true := by decide

/-- 95_test_vectors.md V44-15: 1B DEC DE. -/
theorem test_v44_15 :
    ends (startAt [0x1B] (fun c => { c with d := 0x00, e := 0x00, f := 0xFF }) [])
      (fun t => t.cpu.d == 0xFF && t.cpu.e == 0xFF && t.cpu.pc == 0x0201 && t.cpu.f == 0xFF) = true := by decide

/-- 95_test_vectors.md V45-1: 07 RLCA. -/
theorem test_v45_1 :
    ends (startAt [0x07] (fun c => { c with a := 0x80, f := 0x00 }) [])
      (fun t => t.cpu.a == 0x01 && t.cpu.pc == 0x0201 && t.cpu.f == 0x01) = true := by decide

/-- 95_test_vectors.md V45-4: 0F RRCA. -/
theorem test_v45_4 :
    ends (startAt [0x0F] (fun c => { c with a := 0x01, f := 0xC4 }) [])
      (fun t => t.cpu.a == 0x80 && t.cpu.pc == 0x0201 && t.cpu.f == 0xC5) = true := by decide

/-- 95_test_vectors.md V45-12: CB 16 RL (HL). -/
theorem test_v45_12 :
    ends (startAt [0xCB, 0x16] (fun c => { c with h := 0x30, l := 0x00, f := 0x01 }) [(0x3000, 0x7F)])
      (fun t => t.cpu.pc == 0x0202 && t.cpu.f == 0xAC && t.peek 0x3000 == 0xFF) = true := by decide

/-- 95_test_vectors.md V45-14: DD CB 00 1E RR (IX+0). -/
theorem test_v45_14 :
    ends (startAt [0xDD, 0xCB, 0x00, 0x1E] (fun c => { c with ix := 0x3000 }) [(0x3000, 0x02)])
      (fun t => t.cpu.pc == 0x0204 && t.cpu.f == 0x00 && t.peek 0x3000 == 0x01) = true := by decide

/-- 95_test_vectors.md V45-18: FD CB 02 2E SRA (IY+2). -/
theorem test_v45_18 :
    ends (startAt [0xFD, 0xCB, 0x02, 0x2E] (fun c => { c with iy := 0x3000 }) [(0x3002, 0x01)])
      (fun t => t.cpu.pc == 0x0204 && t.cpu.f == 0x45 && t.peek 0x3002 == 0x00) = true := by decide

/-- 95_test_vectors.md V45-19: CB 37 SLL A. -/
theorem test_v45_19 :
    ends (startAt [0xCB, 0x37] (fun c => { c with a := 0x80 }) [])
      (fun t => t.cpu.a == 0x01 && t.cpu.pc == 0x0202 && t.cpu.f == 0x01) = true := by decide

/-- 95_test_vectors.md V45-25: ED 6F RLD. -/
theorem test_v45_25 :
    ends (startAt [0xED, 0x6F] (fun c => { c with a := 0x7A, h := 0x30, l := 0x00, f := 0x01 }) [(0x3000, 0x31)])
      (fun t => t.cpu.a == 0x73 && t.cpu.pc == 0x0202 && t.cpu.f == 0x21 && t.peek 0x3000 == 0x1A) = true := by decide

/-- 95_test_vectors.md V45-26: ED 67 RRD. -/
theorem test_v45_26 :
    ends (startAt [0xED, 0x67] (fun c => { c with a := 0x84, h := 0x30, l := 0x00 }) [(0x3000, 0x20)])
      (fun t => t.cpu.a == 0x80 && t.cpu.pc == 0x0202 && t.cpu.f == 0x80 && t.peek 0x3000 == 0x42) = true := by decide

/-- 95_test_vectors.md V46-1: CB 7F BIT 7,A. -/
theorem test_v46_1 :
    ends (startAt [0xCB, 0x7F] (fun c => { c with a := 0x80, f := 0x01 }) [])
      (fun t => t.cpu.pc == 0x0202 && t.cpu.f == 0x91) = true := by decide

/-- 95_test_vectors.md V46-4: CB 5E BIT 3,(HL). -/
theorem test_v46_4 :
    ends (startAt [0xCB, 0x5E] (fun c => { c with h := 0x30, l := 0x00 }) [(0x3000, 0x08)])
      (fun t => t.cpu.pc == 0x0202) = true := by decide

/-- 95_test_vectors.md V46-5: DD CB 02 6E BIT 5,(IX+2). -/
theorem test_v46_5 :
    ends (startAt [0xDD, 0xCB, 0x02, 0x6E] (fun c => { c with ix := 0x27FE }) [])
      (fun t => t.cpu.pc == 0x0204 && t.cpu.f == 0x7C) = true := by decide

/-- 95_test_vectors.md V46-8: FD CB FF DE SET 3,(IY-1). -/
theorem test_v46_8 :
    ends (startAt [0xFD, 0xCB, 0xFF, 0xDE] (fun c => { c with iy := 0x3001 }) [])
      (fun t => t.cpu.pc == 0x0204 && t.cpu.f == 0x00 && t.peek 0x3000 == 0x08) = true := by decide

/-- 95_test_vectors.md V46-11: DD CB 05 8E RES 1,(IX+5). -/
theorem test_v46_11 :
    ends (startAt [0xDD, 0xCB, 0x05, 0x8E] (fun c => { c with ix := 0x3000 }) [(0x3005, 0x03)])
      (fun t => t.cpu.pc == 0x0204 && t.cpu.f == 0x00 && t.peek 0x3005 == 0x01) = true := by decide

/-- 95_test_vectors.md V47-4: EA 00 40 JP PE,nn. -/
theorem test_v47_4 :
    ends (startAt [0xEA, 0x00, 0x40] (fun c => { c with f := 0x04 }) [])
      (fun t => t.cpu.pc == 0x4000 && t.cpu.f == 0x04) = true := by decide

/-- 95_test_vectors.md V47-9: 18 01 JR at 0xFFFE, +1. -/
theorem test_v47_9 :
    ends (startAt [0x18, 0x01] (fun c => { c with pc := 0xFFFE }) [])
      (fun t => t.cpu.pc == 0x0001 && t.cpu.f == 0x00) = true := by decide

/-- 95_test_vectors.md V47-11: 38 10 JR C,e taken. -/
theorem test_v47_11 :
    ends (startAt [0x38, 0x10] (fun c => { c with f := 0x01 }) [])
      (fun t => t.cpu.pc == 0x0212 && t.cpu.f == 0x01) = true := by decide

/-- 95_test_vectors.md V47-14: 10 FE DJNZ, B=2. -/
theorem test_v47_14 :
    ends (startAt [0x10, 0xFE] (fun c => { c with b := 0x02 }) [])
      (fun t => t.cpu.b == 0x01 && t.cpu.c == 0x00 && t.cpu.pc == 0x0200 && t.cpu.f == 0x00) = true := by decide

/-- 95_test_vectors.md V47-16: 10 FE DJNZ, B=0. -/
theorem test_v47_16 :
    ends (startAt [0x10, 0xFE] (fun c => { c with b := 0x00 }) [])
      (fun t => t.cpu.b == 0xFF && t.cpu.c == 0x00 && t.cpu.pc == 0x0200 && t.cpu.f == 0x00) = true := by decide

/-- 95_test_vectors.md V47-17: CD 00 40 CALL nn. -/
theorem test_v47_17 :
    ends (startAt [0xCD, 0x00, 0x40] id [])
      (fun t => t.cpu.sp == 0xEFFC && t.cpu.pc == 0x4000 && t.cpu.f == 0x00 && t.peek 0xEFFC == 0x03 &&
        t.peek 0xEFFD == 0x02) = true := by decide

/-- 95_test_vectors.md V47-18: D4 00 40 CALL NC,nn not taken. -/
theorem test_v47_18 :
    ends (startAt [0xD4, 0x00, 0x40] (fun c => { c with f := 0x01 }) [])
      (fun t => t.cpu.pc == 0x0203 && t.cpu.f == 0x01) = true := by decide

/-- 95_test_vectors.md V47-22: C9 RET. -/
theorem test_v47_22 :
    ends (startAt [0xC9] id [(0xEFFE, 0x34), (0xEFFF, 0x12)])
      (fun t => t.cpu.sp == 0xF000 && t.cpu.pc == 0x1234 && t.cpu.f == 0x00) = true := by decide

/-- 95_test_vectors.md V47-25: ED 4D RETI. -/
theorem test_v47_25 :
    ends (startAt [0xED, 0x4D] (fun c => { c with iff1 := false, iff2 := true }) [(0xEFFE, 0x34), (0xEFFF, 0x12)])
      (fun t => t.cpu.sp == 0xF000 && t.cpu.pc == 0x1234 && t.cpu.iff1 == true && t.cpu.f == 0x00) = true := by decide

/-- 95_test_vectors.md V48-1: DB 34 IN A,(n). -/
theorem test_v48_1 :
    ends ((startAt [0xDB, 0x34] (fun c => { c with a := 0x12, f := 0xFF })
        []).withHost fun h => { h with portIn := portTable })
      (fun t => t.cpu.a == 0x5A && t.cpu.pc == 0x0202 && t.cpu.f == 0xFF) = true := by decide

/-- 95_test_vectors.md V48-2: ED 40 IN B,(C). -/
theorem test_v48_2 :
    ends ((startAt [0xED, 0x40] (fun c => { c with b := 0x07, c := 0x10, f := 0x01 })
        []).withHost fun h => { h with portIn := portTable })
      (fun t => t.cpu.b == 0x00 && t.cpu.c == 0x10 && t.cpu.pc == 0x0202 && t.cpu.f == 0x45) = true := by decide

/-- 95_test_vectors.md V48-5: ED 59 OUT (C),E. -/
theorem test_v48_5 :
    ends (startAt [0xED, 0x59] (fun c => { c with b := 0x12, c := 0x34, e := 0x99 }) [])
      (fun t => t.cpu.pc == 0x0202 && t.cpu.f == 0x00 && t.host.portLog == [.write 0x1234 0x99]) = true := by decide

/-- 95_test_vectors.md V48-6: ED A2 INI. -/
theorem test_v48_6 :
    ends ((startAt [0xED, 0xA2] (fun c => { c with b := 0x03, c := 0x10, h := 0x30, l := 0x00 })
        []).withHost fun h => { h with portIn := portTable })
      (fun t => t.cpu.b == 0x02 && t.cpu.c == 0x10 && t.cpu.h == 0x30 && t.cpu.l == 0x01 &&
        t.cpu.pc == 0x0202 && t.cpu.f == 0x06 && t.peek 0x3000 == 0x81) = true := by decide

/-- 95_test_vectors.md V48-8: ED AA IND. -/
theorem test_v48_8 :
    ends ((startAt [0xED, 0xAA] (fun c => { c with b := 0x01, c := 0x10, h := 0x30, l := 0x00 })
        []).withHost fun h => { h with portIn := portTable })
      (fun t => t.cpu.b == 0x00 && t.cpu.c == 0x10 && t.cpu.h == 0x2F && t.cpu.l == 0xFF &&
        t.cpu.pc == 0x0202 && t.cpu.f == 0x40 && t.peek 0x3000 == 0x22) = true := by decide

/-- 95_test_vectors.md V48-9: ED A3 OUTI. -/
theorem test_v48_9 :
    ends (startAt [0xED, 0xA3] (fun c => { c with b := 0x02, c := 0x10, h := 0x30, l := 0x00 }) [(0x3000, 0x80)])
      (fun t => t.cpu.b == 0x01 && t.cpu.c == 0x10 && t.cpu.h == 0x30 && t.cpu.l == 0x01 &&
        t.cpu.pc == 0x0202 && t.cpu.f == 0x06 && t.host.portLog == [.write 0x0110 0x80]) = true := by decide

/-- 95_test_vectors.md V49-1: (trap) C_READ. -/
theorem test_v49_1 :
    ends ((startAt [] (fun c => { c with pc := 0x0005, c := 0x01 }) [(0xEFFE, 0x03),
        (0xEFFF, 0x02)]).withHost fun h => { h with stdin := [.byte 0x78], dirs := drives })
      (fun t => t.cpu.h == 0x00 && t.cpu.l == 0x78 && t.cpu.a == 0x78 && t.cpu.sp == 0xF000 &&
        t.cpu.pc == 0x0203 && t.cpu.f == 0x00 && t.host.stdout == [0x78]) = true := by decide

/-- 95_test_vectors.md V49-2: (trap) C_READ at end of input. -/
theorem test_v49_2 :
    ends ((startAt [] (fun c => { c with pc := 0x0005, c := 0x01 }) [(0xEFFE, 0x03),
        (0xEFFF, 0x02)]).withHost fun h => { h with dirs := drives })
      (fun t => t.cpu.pc == 0x0005 && t.cpu.f == 0x00 && t.status == .faulted (.consoleIOError 0x0005)) = true := by decide

/-- 95_test_vectors.md V49-4: (trap) C_WRITESTR. -/
theorem test_v49_4 :
    ends ((startAt [] (fun c => { c with pc := 0x0005, c := 0x09, d := 0x30, e := 0x00 }) [(0x3000, 0x48),
        (0x3001, 0x49), (0x3002, 0x24), (0x3003, 0x58), (0xEFFE, 0x03),
        (0xEFFF, 0x02)]).withHost fun h => { h with dirs := drives })
      (fun t => t.cpu.sp == 0xF000 && t.cpu.pc == 0x0203 && t.cpu.f == 0x00 && t.host.stdout == [0x48, 0x49]) = true := by decide

/-- 95_test_vectors.md V49-6: (trap) C_READSTR. -/
theorem test_v49_6 :
    ends ((startAt [] (fun c => { c with pc := 0x0005, c := 0x0A, d := 0x30, e := 0x00 }) [(0x3000, 0x05),
        (0xEFFE, 0x03),
        (0xEFFF, 0x02)]).withHost fun h => { h with stdin := [.byte 0x48, .byte 0x45, .byte 0x4C, .byte 0x4C, .byte 0x4F, .byte 0x20, .byte 0x57, .byte 0x4F, .byte 0x52, .byte 0x4C, .byte 0x44, .byte 0x0D], dirs := drives })
      (fun t => t.cpu.sp == 0xF000 && t.cpu.pc == 0x0203 && t.cpu.f == 0x00 && t.peek 0x3001 == 0x05 &&
        t.peek 0x3002 == 0x48 && t.peek 0x3003 == 0x45 && t.peek 0x3004 == 0x4C && t.peek 0x3005 == 0x4C &&
        t.peek 0x3006 == 0x4F) = true := by decide

/-- 95_test_vectors.md V49-8: (trap) C_STAT, byte waiting. -/
theorem test_v49_8 :
    ends ((startAt [] (fun c => { c with pc := 0x0005, c := 0x0B }) [(0xEFFE, 0x03),
        (0xEFFF, 0x02)]).withHost fun h => { h with stdin := [.byte 0x6B], dirs := drives })
      (fun t => t.cpu.h == 0x00 && t.cpu.l == 0xFF && t.cpu.a == 0xFF && t.cpu.sp == 0xF000 &&
        t.cpu.pc == 0x0203 && t.cpu.f == 0x00) = true := by decide

/-- 95_test_vectors.md V49-10: (trap) S_BDOSVER. -/
theorem test_v49_10 :
    ends ((startAt [] (fun c => { c with pc := 0x0005, c := 0x0C, h := 0x11, l := 0x11, b := 0x77 })
        [(0xEFFE, 0x03), (0xEFFF, 0x02)]).withHost fun h => { h with dirs := drives })
      (fun t => t.cpu.b == 0x00 && t.cpu.c == 0x0C && t.cpu.h == 0x00 && t.cpu.l == 0x22 &&
        t.cpu.a == 0x22 && t.cpu.sp == 0xF000 && t.cpu.pc == 0x0203 && t.cpu.f == 0x00) = true := by decide

/-- 95_test_vectors.md V49-12: (trap) DRV_SET B:. -/
theorem test_v49_12 :
    ends ((startAt [] (fun c => { c with pc := 0x0005, c := 0x0E, e := 0x01 }) [(0xEFFE, 0x03),
        (0xEFFF, 0x02)]).withHost fun h => { h with dirs := drives })
      (fun t => t.cpu.sp == 0xF000 && t.cpu.pc == 0x0203 && t.amb.curDrive == 1 && t.cpu.f == 0x00) = true := by decide

/-- 95_test_vectors.md V49-16: (trap) F_OPEN, missing file. -/
theorem test_v49_16 :
    ends ((startAt [] (fun c => { c with pc := 0x0005, c := 0x0F, d := 0x00, e := 0x5C }) [(0x005D, 0x4E),
        (0x005E, 0x4F), (0x005F, 0x4E), (0x0060, 0x45), (0x0061, 0x20), (0x0062, 0x20), (0x0063, 0x20),
        (0x0064, 0x20), (0x0065, 0x43), (0x0066, 0x4F), (0x0067, 0x4D), (0xEFFE, 0x03),
        (0xEFFF, 0x02)]).withHost fun h => { h with dirs := drives })
      (fun t => t.cpu.h == 0x00 && t.cpu.l == 0xFF && t.cpu.a == 0xFF && t.cpu.sp == 0xF000 &&
        t.cpu.pc == 0x0203 && t.cpu.f == 0x00) = true := by decide

/-- 95_test_vectors.md V49-22: (trap) F_SFIRST *.TXT as ????????TXT. -/
theorem test_v49_22 :
    ends ((startAt [] (fun c => { c with pc := 0x0005, c := 0x11, d := 0x00, e := 0x5C }) [(0x005D, 0x3F),
        (0x005E, 0x3F), (0x005F, 0x3F), (0x0060, 0x3F), (0x0061, 0x3F), (0x0062, 0x3F), (0x0063, 0x3F),
        (0x0064, 0x3F), (0x0065, 0x54), (0x0066, 0x58), (0x0067, 0x54), (0xEFFE, 0x03),
        (0xEFFF, 0x02)]).withHost fun h => { h with dirs := drives })
      (fun t => t.cpu.sp == 0xF000 && t.cpu.pc == 0x0203 && t.cpu.f == 0x00 && t.peek 0x0081 == 0x57 &&
        t.peek 0x0082 == 0x4F && t.peek 0x0083 == 0x52 && t.peek 0x0084 == 0x4C && t.peek 0x0085 == 0x44 &&
        t.peek 0x0086 == 0x20 && t.peek 0x0087 == 0x20 && t.peek 0x0088 == 0x20 && t.peek 0x0089 == 0x54 &&
        t.peek 0x008A == 0x58 && t.peek 0x008B == 0x54) = true := by decide

/-- 95_test_vectors.md V49-33: (trap) F_READ, no handle. -/
theorem test_v49_33 :
    ends ((startAt [] (fun c => { c with pc := 0x0005, c := 0x14, d := 0x00, e := 0x5C }) [(0x005D, 0x48),
        (0x005E, 0x45), (0x005F, 0x4C), (0x0060, 0x4C), (0x0061, 0x4F), (0x0062, 0x20), (0x0063, 0x20),
        (0x0064, 0x20), (0x0065, 0x43), (0x0066, 0x4F), (0x0067, 0x4D), (0xEFFE, 0x03),
        (0xEFFF, 0x02)]).withHost fun h => { h with dirs := drives })
      (fun t => t.cpu.h == 0x00 && t.cpu.l == 0xFF && t.cpu.a == 0xFF && t.cpu.sp == 0xF000 &&
        t.cpu.pc == 0x0203 && t.cpu.f == 0x00) = true := by decide

/-- 95_test_vectors.md V49-38: (trap) F_DMAOFF. -/
theorem test_v49_38 :
    ends ((startAt [] (fun c => { c with pc := 0x0005, c := 0x1A, d := 0x30, e := 0x00 }) [(0xEFFE, 0x03),
        (0xEFFF, 0x02)]).withHost fun h => { h with dirs := drives })
      (fun t => t.cpu.sp == 0xF000 && t.cpu.pc == 0x0203 && t.amb.dma == 0x3000 && t.cpu.f == 0x00) = true := by decide

/-- 95_test_vectors.md V49-40: (trap) F_USERNUM set 0x25. -/
theorem test_v49_40 :
    ends ((startAt [] (fun c => { c with pc := 0x0005, c := 0x20, e := 0x25 }) [(0xEFFE, 0x03),
        (0xEFFF, 0x02)]).withHost fun h => { h with dirs := drives })
      (fun t => t.cpu.sp == 0xF000 && t.cpu.pc == 0x0203 && t.amb.curUser == 5 && t.cpu.f == 0x00) = true := by decide

/-- 95_test_vectors.md V49-41: (trap) function 0x00. -/
theorem test_v49_41 :
    ends ((startAt [] (fun c => { c with pc := 0x0005, c := 0x00 }) [(0xEFFE, 0x03),
        (0xEFFF, 0x02)]).withHost fun h => { h with dirs := drives })
      (fun t => t.cpu.pc == 0x0005 && t.cpu.f == 0x00 && t.status == .faulted (.unsupportedBdosFunction 0x0005 0)) = true := by decide

/-- 95_test_vectors.md V49B-1: C3 06 FC CONST, byte waiting. -/
theorem test_v49b_1 :
    ends ((startAt [0xC3, 0x06, 0xFC] (fun c => { c with pc := 0xFC06 }) [(0xEFFE, 0x03),
        (0xEFFF, 0x02)]).withHost fun h => { h with stdin := [.byte 0x6B] })
      (fun t => t.cpu.a == 0xFF && t.cpu.sp == 0xF000 && t.cpu.pc == 0x0203 && t.cpu.f == 0x00) = true := by decide

/-- 95_test_vectors.md V49B-3: C3 09 FC CONIN. -/
theorem test_v49b_3 :
    ends ((startAt [0xC3, 0x09, 0xFC] (fun c => { c with pc := 0xFC09 }) [(0xEFFE, 0x03),
        (0xEFFF, 0x02)]).withHost fun h => { h with stdin := [.byte 0x51] })
      (fun t => t.cpu.a == 0x51 && t.cpu.sp == 0xF000 && t.cpu.pc == 0x0203 && t.cpu.f == 0x00) = true := by decide

/-- 95_test_vectors.md V49B-4: C3 0C FC CONOUT. -/
theorem test_v49b_4 :
    ends (startAt [0xC3, 0x0C, 0xFC] (fun c => { c with pc := 0xFC0C, c := 0x41 }) [(0xEFFE, 0x03),
        (0xEFFF, 0x02)])
      (fun t => t.cpu.sp == 0xF000 && t.cpu.pc == 0x0203 && t.cpu.f == 0x00 && t.host.stdout == [0x41]) = true := by decide

/-- 95_test_vectors.md V49B-7: C3 03 FC slot 1 (WBOOT). -/
theorem test_v49b_7 :
    ends (startAt [0xC3, 0x03, 0xFC] (fun c => { c with pc := 0xFC03 }) [(0xEFFE, 0x03), (0xEFFF, 0x02)])
      (fun t => t.cpu.pc == 0xFC03 && t.cpu.f == 0x00 && t.status == .faulted (.unsupportedBiosFunction 0xFC03 1)) = true := by decide

/-- 95_test_vectors.md V49B-9: 00 FC C3 PC = BIOS_BASE+1 is not a trap. -/
theorem test_v49b_9 :
    ends (startAt [0x00, 0xFC, 0xC3] (fun c => { c with pc := 0xFC01 }) [])
      (fun t => t.cpu.pc == 0xFC02 && t.cpu.f == 0x00) = true := by decide

/-- 95_test_vectors.md V49B-11: C3 03 FC PC = 0x0000. -/
theorem test_v49b_11 :
    ends (startAt [0xC3, 0x03, 0xFC] (fun c => { c with pc := 0x0000 }) [])
      (fun t => t.cpu.pc == 0x0000 && t.cpu.f == 0x00 && t.status == .exited) = true := by decide

/-- 95_test_vectors.md V60-1: 00 NMI. -/
theorem test_v60_1 :
    ends ((interruptible (startAt [0x00]
        (fun c => { c with pc := 0x1234, sp := 0x8000, iff1 := true, iff2 := true })
        [])).withHost fun h => { h with nmiPending := true })
      (fun t => t.cpu.sp == 0x7FFE && t.cpu.pc == 0x0066 && t.cpu.iff1 == false && t.cpu.f == 0x00 &&
        t.peek 0x7FFE == 0x34 && t.peek 0x7FFF == 0x12) = true := by decide

/-- 95_test_vectors.md V60-3: 00 INT, IM 1. -/
theorem test_v60_3 :
    ends ((interruptible (startAt [0x00] (fun c => { c with iff1 := true, iff2 := true, im := .im1 })
        [])).withHost fun h => { h with intLine := some 0xFF })
      (fun t => t.cpu.sp == 0xEFFC && t.cpu.pc == 0x0038 && t.cpu.iff1 == false && t.cpu.iff2 == false &&
        t.cpu.f == 0x00 && t.peek 0xEFFD == 0x02) = true := by decide

/-- 95_test_vectors.md V60-5: 00 INT during EI delay. -/
theorem test_v60_5 :
    ends ((interruptible (startAt [0x00]
        (fun c => { c with iff1 := true, iff2 := true, im := .im1, eiDelay := true })
        [])).withHost fun h => { h with intLine := some 0xFF })
      (fun t => t.cpu.pc == 0x0201 && t.cpu.eiDelay == false && t.cpu.f == 0x00) = true := by decide

/-- 95_test_vectors.md V60-7: 00 INT, IM 2. -/
theorem test_v60_7 :
    ends ((interruptible (startAt [0x00] (fun c => { c with iff1 := true, iff2 := true, im := .im2, i := 0x38 })
        [(0x3811, 0x40)])).withHost fun h => { h with intLine := some 0x10 })
      (fun t => t.cpu.sp == 0xEFFC && t.cpu.pc == 0x4000 && t.cpu.iff1 == false && t.cpu.iff2 == false &&
        t.cpu.f == 0x00 && t.peek 0xEFFD == 0x02) = true := by decide

/-- 95_test_vectors.md V60-8: 00 INT, IM 0, bus RST 08H. -/
theorem test_v60_8 :
    ends ((interruptible (startAt [0x00] (fun c => { c with iff1 := true, iff2 := true, im := .im0 })
        [])).withHost fun h => { h with intLine := some 0xCF })
      (fun t => t.cpu.sp == 0xEFFC && t.cpu.pc == 0x0008 && t.cpu.iff1 == false && t.cpu.iff2 == false &&
        t.cpu.f == 0x00 && t.peek 0xEFFD == 0x02) = true := by decide

/-- 95_test_vectors.md V60-9: 00 INT, IM 0, bus 0x00. -/
theorem test_v60_9 :
    ends ((interruptible (startAt [0x00] (fun c => { c with iff1 := true, iff2 := true, im := .im0 })
        [])).withHost fun h => { h with intLine := some 0x00 })
      (fun t => t.cpu.pc == 0x0200 && t.cpu.f == 0x00 && t.status == .faulted (.unsupportedIm0Opcode 0x0200 [0x00])) = true := by decide

/-! ## Witnesses: for the hypotheses of each statement, a state and operands that meet them -/

/-- A state at the edges of its ranges: `PC`, `HL`, `DE`, `IX` at the top of memory, `SP` at the bottom, a byte at each end. -/
def edge : State :=
  startAt [0x00] (fun c => { c with pc := 0xFFFF, h := 0xFF, l := 0xFF, d := 0xFF, e := 0xFF, ix := 0xFFFF, iy := 0x0000, sp := 0x0000 })
    [(0x0000, 0x12), (0x0001, 0x34), (0xFFFE, 0x56)]

/-- The start state at the BDOS trap with function `fn` and an empty console, `f` applied to its registers. -/
def atBdos (fn : Byte) (f : Cpu → Cpu) (cells : List (Word × Byte)) : State :=
  startAt [] (fun c => f { c with pc := 0x0005, c := fn }) cells

theorem witness_ByteStoresWriteOneByte : edge.mem.wf = true := by decide
theorem witness_WordStoresWriteTwoBytes : edge.mem.wf = true ∧ edge.cpu.ix = 0xFFFF := by decide
theorem witness_PushWritesTheStack : edge.mem.wf = true ∧ edge.cpu.sp = 0x0000 := by decide
theorem witness_StackTopExchanges : edge.mem.wf = true ∧ edge.cpu.sp = 0x0000 := by decide
theorem witness_BlockTransfersMoveOneByte : edge.mem.wf = true ∧ edge.hl = 0xFFFF ∧ edge.bc = 0x0000 := by decide
theorem witness_IncrementAndDecrement : edge.mem.wf = true := by decide
theorem witness_RotatesAndShifts : edge.mem.wf = true := by decide
theorem witness_DigitRotates : edge.mem.wf = true := by decide
theorem witness_SetAndReset : edge.mem.wf = true := by decide
theorem witness_BlockIoMovesOneByte : edge.mem.wf = true ∧ edge.cpu.b = 0x00 := by decide
theorem witness_BlockIoMovesOneByte_last :
    let s := startAt [0xED, 0xB2] (fun c => { c with b := 0x01 }) []
    s.mem.wf = true ∧ s.cpu.b = 1 := by decide
/-- An answer for the port behind one for another port, and an answer for any port. -/
theorem witness_PortTransfers :
    let other : PortAnswer := ⟨some 0x0000, 0x01, true⟩
    ∀ a ∈ [(⟨some 0xFFFF, 0x02, false⟩ : PortAnswer), ⟨none, 0x03, true⟩],
      (edge.withHost fun h => { h with portIn := [other, a] }).host.portIn = [other] ++ a :: [] ∧
      (∀ o ∈ [other], ∃ q, o.port = some q ∧ q ≠ 0xFFFF) ∧ (a.port = none ∨ a.port = some 0xFFFF) := by
  intro other a ha
  refine ⟨rfl, fun o ho => ⟨0x0000, ?_, by decide⟩, ?_⟩
  · rw [List.mem_singleton.mp ho]
  · revert a
    decide

/-- The operand 0x99 and the accumulator 0x99 are packed decimal. -/
theorem witness_DaaCorrectsDecimal :
    let s := startAt [] (fun c => { c with a := 0x99 }) []
    let v : Byte := 0x99
    (s.cpu.a.toNat % 16 ≤ 9 ∧ s.cpu.a.toNat / 16 ≤ 9) ∧ v.toNat % 16 ≤ 9 ∧ v.toNat / 16 ≤ 9 := by decide

theorem witness_HaltStopsOrIdles_latch : (startAt [0x76] (fun c => { c with iff1 := true }) []).cpu.iff1 = true := by decide
theorem witness_HaltStopsOrIdles_fault : (startAt [0x76] id []).cpu.iff1 = false := by decide
theorem witness_HaltStopsOrIdles_idle :
    let s := startAt [] (fun c => { c with halt := true }) []
    s.status = .running ∧ s.cpu.halt = true ∧ s.nmiPending = false ∧ s.intRequest = none := by decide

theorem witness_CallsPushTheReturnAddress :
    edge.mem.wf = true ∧ condHolds edge.flags .nz = true ∧ condHolds edge.flags .z = false := by decide

theorem witness_StepRunsTheDecodedInstruction :
    AtTrap edge.cpu.pc edge ∧ trapKind edge.cfg.biosBase edge.cpu.pc = .none ∧
    decode4 (edge.peek edge.cpu.pc) (edge.peek (edge.cpu.pc + 1)) (edge.peek (edge.cpu.pc + 2)) (edge.peek (edge.cpu.pc + 3)) =
      .ok .nop := ⟨⟨rfl, rfl, rfl, rfl, rfl⟩, by decide, rfl⟩

theorem witness_DecodeInvertsEncode : (Instr.ldIxHalves .hi .lo).wf = true := by decide
theorem witness_EncodeInvertsDecode : decode4 0xFD 0xCB 0x80 0xFE = .ok (.setBIyd 0x80 7) := rfl

theorem witness_UnsupportedEncodingsFault :
    let s := startAt [0xFD, 0xCB, 0x00, 0x07] id []
    AtTrap s.cpu.pc s ∧ trapKind s.cfg.biosBase s.cpu.pc = .none ∧
    unsupportedBytes (s.peek s.cpu.pc) (s.peek (s.cpu.pc + 1)) (s.peek (s.cpu.pc + 3)) = true :=
  ⟨⟨rfl, rfl, rfl, rfl, rfl⟩, by decide, by decide⟩

theorem witness_MemoryReadsWhatWasWritten :
    edge.mem.wf = true ∧ (0x0001 : Word) ≠ 0xFFFF ∧ (0x0001 : Word) ≠ 0xFFFF + 1 := by decide

theorem witness_StepKeepsTheInvariant : State.reset.Inv ∧ ∃ t, step State.reset = .next t :=
  ⟨⟨by decide, by decide, by decide⟩, ⟨_, rfl⟩⟩

theorem witness_ResetMeetsTheInvariant : State.reset.Inv ∧ ∃ t, launchAt [0xC9] 0x0100 0x0100 State.reset = .next t :=
  ⟨⟨by decide, by decide, by decide⟩, ⟨_, rfl⟩⟩

/-- HALT with interrupts disabled. -/
theorem witness_FaultsLeaveTheCore :
    let s := startAt [0x76] id []
    ∃ t f, s.status = .running ∧ step s = .next t ∧ t.status = .faulted f := ⟨_, _, rfl, rfl, rfl⟩

theorem witness_OnlyBdosChangesAmbientState :
    (∃ t, step (startAt [0x00] id []) = .next t) ∧ nextEvent (startAt [0x00] id []) ≠ .bdos := ⟨⟨_, rfl⟩, by decide⟩

theorem witness_ControlRegistersHaveFewWriters :
    ∃ t, (startAt [] id []).status = .running ∧ exec .nop (startAt [] id []) = .next t ∧ t.status = .running :=
  ⟨_, rfl, rfl, rfl⟩

theorem witness_NmiAcceptance :
    let s := (interruptible edge).withHost fun h => { h with nmiPending := true }
    s.status = .running ∧ s.cfg.interruptsModeled = true ∧ s.host.nmiPending = true ∧ s.mem.wf = true := by decide

/-- A state with INT asserted, enabled and not delayed, in mode `im`, the bus byte `bus`. -/
def intAsserted (im : IntMode) (bus : Byte) : State :=
  (interruptible (startAt [] (fun c => { c with iff1 := true, im := im, i := 0xFF, sp := 0x0001 }) [])).withHost
    fun h => { h with intLine := some bus }

theorem witness_IntAcceptance :
    ∀ p ∈ [(IntMode.im0, (0xC7 : Byte)), (.im0, 0xFF), (.im0, 0x00), (.im1, 0x00), (.im2, 0xFF)],
      let s := intAsserted p.1 p.2
      s.status = .running ∧ s.cfg.interruptsModeled = true ∧ s.host.nmiPending = false ∧ s.host.intLine = some p.2 ∧
      s.cpu.iff1 = true ∧ s.cpu.eiDelay = false ∧ s.mem.wf = true ∧ s.cpu.im = p.1 ∧
      (p.2 = 0x00 → p.2 &&& 0xC7 ≠ 0xC7) ∧ (p.2 ≠ 0x00 → p.2 &&& 0xC7 = 0xC7) := by decide

theorem witness_InterruptMasking_int : nextEvent (intAsserted .im1 0xFF) = .int 0xFF := by decide
theorem witness_InterruptMasking_after_ei : ∃ t, exec .ei (intAsserted .im1 0xFF) = .next t := ⟨_, rfl⟩
theorem witness_InterruptMasking_after_acceptance :
    ∃ t, step (intAsserted .im1 0xFF) = .next t ∧ t.status = .running := ⟨_, rfl, rfl⟩
theorem witness_InterruptMasking_nmi :
    let s := (intAsserted .im1 0xFF).withHost fun h => { h with nmiPending := true }
    s.cfg.interruptsModeled = true ∧ s.host.nmiPending = true := by decide
theorem witness_InterruptMasking_not_modelled : edge.cfg.interruptsModeled = false := by decide

theorem witness_TrapComparator :
    paramsOk edge.cfg = true ∧ (0xFC33 : Word) ≠ 0x0000 ∧ (0xFC33 : Word) ≠ 0x0005 ∧
    (∀ k, k ≤ 16 → (0xFC33 : Word) ≠ edge.cfg.biosBase + BitVec.ofNat 16 (3 * k)) ∧
    AtTrap 0x0000 (startAt [] (fun c => { c with pc := 0x0000 }) []) :=
  ⟨by decide, by decide, by decide, by decide, ⟨rfl, rfl, rfl, rfl, rfl⟩⟩

theorem witness_UnsupportedServicesFault_bdos :
    AtTrap 0x0005 (atBdos 0xFF id []) ∧
    (atBdos 0xFF id []).cpu.c.toNat ∉ [0x01, 0x02, 0x09, 0x0A, 0x0B, 0x0C, 0x0D, 0x0E, 0x0F, 0x10, 0x11, 0x12, 0x13, 0x14,
                                       0x15, 0x16, 0x19, 0x1A, 0x20] := ⟨⟨rfl, rfl, rfl, rfl, rfl⟩, by decide⟩
theorem witness_UnsupportedServicesFault_bios :
    let s := startAt [] (fun c => { c with pc := 0xFC30 }) []
    paramsOk s.cfg = true ∧ AtTrap (s.cfg.biosBase + BitVec.ofNat 16 (3 * 16)) s := ⟨by decide, ⟨rfl, rfl, rfl, rfl, rfl⟩⟩

theorem witness_TrapsPopAndKeepRegisters_bdos :
    ∃ t, step (atBdos 0x19 id []) = .next t ∧ t.status = .running ∧ nextEvent (atBdos 0x19 id []) = .bdos :=
  ⟨_, rfl, rfl, rfl⟩
theorem witness_TrapsPopAndKeepRegisters_bios :
    let s := startAt [] (fun c => { c with pc := 0xFC06 }) []
    ∃ t, step s = .next t ∧ t.status = .running ∧ nextEvent s = .bios 2 := ⟨_, rfl, rfl, rfl⟩
/-- CONOUT of a form feed: `C` is the number of S_BDOSVER. -/
theorem witness_TrapsPopAndKeepRegisters_form_feed :
    let s := startAt [] (fun c => { c with pc := 0xFC0C, c := 0x0C }) []
    ∃ t, step s = .next t ∧ t.status = .running ∧ nextEvent s = .bios 4 := ⟨_, rfl, rfl, rfl⟩

/-! ### Console functions -/

/-- A state with `items` as its console input. -/
def typing (items : List ConIn) (s : State) : State := s.withHost fun h => { h with stdin := items }

/-- A host whose next fallible call answers `Err`. -/
def hostFailing (s : State) : State := s.withHost fun h => { h with fails := [true] }

theorem witness_BdosConsoleFunctions_read :
    let s := typing [.byte 0xFF] (atBdos 0x01 id [])
    AtTrap 0x0005 s ∧ s.host.fails = [] ∧ s.cpu.c = 0x01 ∧ s.host.stdin = .byte 0xFF :: [] :=
  ⟨⟨rfl, rfl, rfl, rfl, rfl⟩, rfl, rfl, rfl⟩
theorem witness_BdosConsoleFunctions_end_of_input :
    AtTrap 0x0005 (atBdos 0x01 id []) ∧ (atBdos 0x01 id []).host.stdin = [] := ⟨⟨rfl, rfl, rfl, rfl, rfl⟩, rfl⟩
theorem witness_BdosConsoleFunctions_failing_write :
    (let s := hostFailing (typing [.byte 0xFF] (atBdos 0x01 id []))
     AtTrap 0x0005 s ∧ s.cpu.c = 0x01 ∧ s.host.fails = true :: [] ∧ s.host.stdin = .byte 0xFF :: []) ∧
    (let s := hostFailing (atBdos 0x02 id [])
     AtTrap 0x0005 s ∧ s.cpu.c = 0x02 ∧ s.host.fails = true :: []) :=
  ⟨⟨⟨rfl, rfl, rfl, rfl, rfl⟩, rfl, rfl, rfl⟩, ⟨rfl, rfl, rfl, rfl, rfl⟩, rfl, rfl⟩
/-- The write of the last byte of a string fails. -/
theorem witness_BdosConsoleFunctions_failing_string :
    let s := (atBdos 0x09 (fun c => { c with d := 0xFF, e := 0xFF }) [(0xFFFF, 0x48), (0x0000, 0x49), (0x0001, 0x24)]).withHost
      fun h => { h with fails := [false, true] }
    AtTrap 0x0005 s ∧ s.cpu.c = 0x09 ∧
    (∀ k, (h : k < [(0x48 : Byte), 0x49].length) → s.peek (s.de + BitVec.ofNat 16 k) = [(0x48 : Byte), 0x49][k]) ∧
    s.peek (s.de + BitVec.ofNat 16 2) = 0x24 ∧ 1 < [(0x48 : Byte), 0x49].length ∧
    s.host.fails = List.replicate 1 false ++ true :: [] :=
  ⟨⟨rfl, rfl, rfl, rfl, rfl⟩, by decide, by decide, by decide, by decide, rfl⟩
theorem witness_BdosConsoleFunctions_failing_read :
    let s := typing [.err] (atBdos 0x0A id [])
    AtTrap 0x0005 s ∧ s.host.fails = [] ∧ s.cpu.c = 0x0A ∧ s.host.stdin = .err :: [] :=
  ⟨⟨rfl, rfl, rfl, rfl, rfl⟩, rfl, rfl, rfl⟩
theorem witness_BdosConsoleFunctions_nothing_ready :
    let s := typing [.wait] (atBdos 0x0B id [])
    AtTrap 0x0005 s ∧ s.host.fails = [] ∧ s.cpu.c = 0x0B ∧ s.host.stdin = .wait :: [] :=
  ⟨⟨rfl, rfl, rfl, rfl, rfl⟩, rfl, rfl, rfl⟩
theorem witness_BdosConsoleFunctions_write :
    AtTrap 0x0005 (atBdos 0x02 id []) ∧ (atBdos 0x02 id []).host.fails = [] ∧ (atBdos 0x02 id []).cpu.c = 0x02 :=
  ⟨⟨rfl, rfl, rfl, rfl, rfl⟩, rfl, rfl⟩
/-- A string across the top of memory, and the empty string. -/
theorem witness_BdosConsoleFunctions_write_string :
    let s := atBdos 0x09 (fun c => { c with d := 0xFF, e := 0xFF }) [(0xFFFF, 0x48), (0x0000, 0x49), (0x0001, 0x24)]
    AtTrap 0x0005 s ∧ s.cpu.c = 0x09 ∧ 0x24 ∉ [(0x48 : Byte), 0x49] ∧
    (∀ k, (h : k < [(0x48 : Byte), 0x49].length) → s.peek (s.de + BitVec.ofNat 16 k) = [(0x48 : Byte), 0x49][k]) ∧
    s.peek (s.de + BitVec.ofNat 16 2) = 0x24 :=
  ⟨⟨rfl, rfl, rfl, rfl, rfl⟩, by decide, by decide, by decide, by decide⟩
theorem witness_BdosConsoleFunctions_no_dollar :
    AtTrap 0x0005 (atBdos 0x09 id []) ∧ (atBdos 0x09 id []).cpu.c = 0x09 ∧ (∀ a, (atBdos 0x09 id []).peek a ≠ 0x24) :=
  ⟨⟨rfl, rfl, rfl, rfl, rfl⟩, rfl, fun _ => (by decide : Memory.background ≠ 0x24)⟩
/-- A line longer than its buffer, which stands at the top of memory. -/
theorem witness_BdosConsoleFunctions_read_string :
    let s := typing [.byte 0x41, .byte 0x42, .byte 0x0D, .byte 0x43] (atBdos 0x0A (fun c => { c with d := 0xFF, e := 0xFF }) [(0xFFFF, 0x01)])
    AtTrap 0x0005 s ∧ s.cpu.c = 0x0A ∧ s.mem.wf = true ∧ 0x0A ∉ [(0x41 : Byte), 0x42] ∧ 0x0D ∉ [(0x41 : Byte), 0x42] ∧
    s.host.stdin = [(0x41 : Byte), 0x42].map .byte ++ .byte 0x0D :: [.byte 0x43] :=
  ⟨⟨rfl, rfl, rfl, rfl, rfl⟩, by decide, by decide, by decide, by decide, rfl⟩
theorem witness_BdosConsoleFunctions_status :
    AtTrap 0x0005 (typing [.byte 0x00] (atBdos 0x0B id [])) ∧ AtTrap 0x0005 (atBdos 0x0B id []) :=
  ⟨⟨rfl, rfl, rfl, rfl, rfl⟩, ⟨rfl, rfl, rfl, rfl, rfl⟩⟩

/-- A state at BIOS slot address `pc` with one byte of console input. -/
def atBios (pc : Word) : State := typing [.byte 0x51] (startAt [] (fun c => { c with pc := pc }) [])

theorem witness_BiosConsoleSlots :
    paramsOk State.reset.cfg = true ∧ State.reset.host.fails = [] ∧ AtTrap (State.reset.cfg.biosBase + 6) (atBios 0xFC06) ∧
    AtTrap (State.reset.cfg.biosBase + 9) (atBios 0xFC09) ∧ AtTrap (State.reset.cfg.biosBase + 12) (atBios 0xFC0C) ∧
    AtTrap (State.reset.cfg.biosBase + 15) (atBios 0xFC0F) ∧ (atBios 0xFC06).host.stdin = .byte 0x51 :: [] :=
  ⟨by decide, rfl, ⟨rfl, rfl, rfl, rfl, rfl⟩, ⟨rfl, rfl, rfl, rfl, rfl⟩, ⟨rfl, rfl, rfl, rfl, rfl⟩, ⟨rfl, rfl, rfl, rfl, rfl⟩,
   rfl⟩
theorem witness_BiosConsoleSlots_end_of_input :
    let s := startAt [] (fun c => { c with pc := 0xFC09 }) []
    AtTrap (s.cfg.biosBase + 9) s ∧ s.host.stdin = [] := ⟨⟨rfl, rfl, rfl, rfl, rfl⟩, rfl⟩

theorem witness_BiosConsoleSlots_failing_write :
    (hostFailing (atBios 0xFC0C)).host.fails = true :: [] ∧
    AtTrap (State.reset.cfg.biosBase + 12) (hostFailing (atBios 0xFC0C)) ∧
    AtTrap (State.reset.cfg.biosBase + 15) (hostFailing (atBios 0xFC0F)) :=
  ⟨rfl, ⟨rfl, rfl, rfl, rfl, rfl⟩, ⟨rfl, rfl, rfl, rfl, rfl⟩⟩
theorem witness_BiosConsoleSlots_failing_and_waiting :
    let s (pc : Word) (item : ConIn) := typing [item] (startAt [] (fun c => { c with pc := pc }) [])
    (AtTrap 0xFC09 (s 0xFC09 .err) ∧ (s 0xFC09 .err).host.stdin = .err :: []) ∧
    (AtTrap 0xFC06 (s 0xFC06 .wait) ∧ (s 0xFC06 .wait).host.stdin = .wait :: []) :=
  ⟨⟨⟨rfl, rfl, rfl, rfl, rfl⟩, rfl⟩, ⟨rfl, rfl, rfl, rfl, rfl⟩, rfl⟩

/-! ### System and file functions -/

theorem witness_BdosSystemFunctions :
    ∀ fn ∈ [(0x0C : Byte), 0x0D, 0x19, 0x1A], AtTrap 0x0005 (atBdos fn id []) ∧ (atBdos fn id []).cpu.c = fn :=
  fun _ _ => ⟨⟨rfl, rfl, rfl, rfl, rfl⟩, rfl⟩
/-- Drive P, with its directory, and without it; drive 16; user 255 and user 254. -/
theorem witness_BdosSystemFunctions_operands :
    let on (fn e : Byte) := (atBdos fn (fun c => { c with e := e }) []).withHost fun h =>
      { h with dirs := [{ letter := 0x50, files := [] }] }
    (AtTrap 0x0005 (on 0x0E 0x0F) ∧ (on 0x0E 0x0F).cpu.e.toNat = (15 : Fin 16).val ∧
      (on 0x0E 0x0F).host.dirExists (0x41 + BitVec.ofNat 8 (15 : Fin 16).val) = true) ∧
    (AtTrap 0x0005 (on 0x0E 0x10) ∧ 15 < (on 0x0E 0x10).cpu.e.toNat) ∧
    (AtTrap 0x0005 (on 0x0E 0x00) ∧ (on 0x0E 0x00).host.dirExists (0x41 + (on 0x0E 0x00).cpu.e) = false) ∧
    (AtTrap 0x0005 (on 0x20 0xFF) ∧ (on 0x20 0xFF).cpu.e = 0xFF) ∧ (AtTrap 0x0005 (on 0x20 0xFE) ∧ (on 0x20 0xFE).cpu.e ≠ 0xFF) :=
  ⟨⟨⟨rfl, rfl, rfl, rfl, rfl⟩, by decide, by decide⟩, ⟨⟨rfl, rfl, rfl, rfl, rfl⟩, by decide⟩,
   ⟨⟨rfl, rfl, rfl, rfl, rfl⟩, by decide⟩, ⟨⟨rfl, rfl, rfl, rfl, rfl⟩, by decide⟩, ⟨rfl, rfl, rfl, rfl, rfl⟩, by decide⟩

/-- An FCB at 0x005C: drive byte `db`, the name WORLD and the type `ty`, the handle `h` at offset 16. -/
def fcb (db h : Byte) (ty : List Byte) : List (Word × Byte) :=
  [(0x005C, db), (0x005D, 0x57), (0x005E, 0x4F), (0x005F, 0x52), (0x0060, 0x4C), (0x0061, 0x44), (0x0062, 0x20), (0x0063, 0x20),
   (0x0064, 0x20), (0x0065, ty.getD 0 0x20), (0x0066, ty.getD 1 0x20), (0x0067, ty.getD 2 0x20), (0x006C, h)]

/-- A file call with the FCB at 0x005C, the drives of the vectors, and handle 1 open on A:WORLD.TXT at position 10. -/
def fileCall (fn : Byte) (cells : List (Word × Byte)) : State :=
  let s := (atBdos fn (fun c => { c with e := 0x5C }) cells).withHost fun h =>
    { h with dirs := drives, nextFid := 1,
             opened := [{ fid := 0, letter := 0x41, name := [0x57, 0x4F, 0x52, 0x4C, 0x44, 0x2E, 0x54, 0x58, 0x54], live := true }] }
  s.withAmb fun a => { a with handles :=
    [(1, { drive := 0, hostName := [0x57, 0x4F, 0x52, 0x4C, 0x44, 0x2E, 0x54, 0x58, 0x54], pos := 10, fid := 0 })] }

theorem witness_OpenMakeAndClose_open :
    let s := fileCall 0x0F (fcb 0x00 0x00 [0x54, 0x58, 0x54])
    AtTrap 0x0005 s ∧ s.host.fails = [] ∧ s.mem.wf = true ∧ s.fcbDrive = some 0 ∧
    s.host.fileExists (driveLetter 0) (cpmToHost s.fcbName) = true ∧ s.freeHandle = some 2 :=
  ⟨⟨rfl, rfl, rfl, rfl, rfl⟩, rfl, by decide, by decide, by decide, by decide⟩
theorem witness_OpenMakeAndClose_missing :
    let s := fileCall 0x0F (fcb 0x02 0x00 [0x54, 0x58, 0x54])
    AtTrap 0x0005 s ∧ s.fcbDrive = some 1 ∧ s.host.fileExists (driveLetter 1) (cpmToHost s.fcbName) = false :=
  ⟨⟨rfl, rfl, rfl, rfl, rfl⟩, by decide, by decide⟩
theorem witness_OpenMakeAndClose_make :
    let s := fileCall 0x16 (fcb 0x02 0x00 [])
    AtTrap 0x0005 s ∧ s.fcbDrive = some 1 ∧ s.host.dirExists (driveLetter 1) = true ∧
    s.host.fileExists (driveLetter 1) (cpmToHost s.fcbName) = false ∧ s.freeHandle = some 2 :=
  ⟨⟨rfl, rfl, rfl, rfl, rfl⟩, by decide, by decide, by decide, by decide⟩
theorem witness_OpenMakeAndClose_make_existing :
    let s := fileCall 0x16 (fcb 0x01 0x00 [0x54, 0x58, 0x54])
    AtTrap 0x0005 s ∧ s.fcbDrive = some 0 ∧ s.host.fileExists (driveLetter 0) (cpmToHost s.fcbName) = true :=
  ⟨⟨rfl, rfl, rfl, rfl, rfl⟩, by decide, by decide⟩
theorem witness_OpenMakeAndClose_no_drive :
    AtTrap 0x0005 (fileCall 0x0F (fcb 0x11 0x00 [])) ∧ (fileCall 0x0F (fcb 0x11 0x00 [])).fcbDrive = none :=
  ⟨⟨rfl, rfl, rfl, rfl, rfl⟩, by decide⟩
theorem witness_OpenMakeAndClose_close :
    (AtTrap 0x0005 (fileCall 0x10 (fcb 0x00 0x01 [])) ∧ (fileCall 0x10 (fcb 0x00 0x01 [])).fcbHandle = 1 ∧
      (handle? (fileCall 0x10 (fcb 0x00 0x01 [])).amb.handles 1).isSome = true) ∧
    (AtTrap 0x0005 (fileCall 0x10 (fcb 0x00 0x02 [])) ∧ (fileCall 0x10 (fcb 0x00 0x02 [])).fcbHandle = 2 ∧
      handle? (fileCall 0x10 (fcb 0x00 0x02 [])).amb.handles 2 = none) :=
  ⟨⟨⟨rfl, rfl, rfl, rfl, rfl⟩, by decide, by decide⟩, ⟨rfl, rfl, rfl, rfl, rfl⟩, by decide, by decide⟩

/-- A pool of one handle, which is taken. -/
def poolFull (s : State) : State := { s with cfg := { s.cfg with maxOpenFiles := 1 } }

theorem witness_OpenMakeAndClose_pool_exhausted :
    (let s := poolFull (fileCall 0x0F (fcb 0x00 0x00 [0x54, 0x58, 0x54]))
     AtTrap 0x0005 s ∧ s.host.fails = [] ∧ s.mem.wf = true ∧ s.fcbDrive = some 0 ∧
      s.host.fileExists (driveLetter 0) (cpmToHost s.fcbName) = true ∧ s.freeHandle = none) ∧
    (let s := poolFull (fileCall 0x16 (fcb 0x02 0x00 []))
     AtTrap 0x0005 s ∧ s.host.fails = [] ∧ s.mem.wf = true ∧ s.fcbDrive = some 1 ∧
      s.host.dirExists (driveLetter 1) = true ∧ s.host.fileExists (driveLetter 1) (cpmToHost s.fcbName) = false ∧
      s.freeHandle = none) :=
  ⟨⟨⟨rfl, rfl, rfl, rfl, rfl⟩, by decide⟩, ⟨rfl, rfl, rfl, rfl, rfl⟩, by decide⟩
theorem witness_OpenMakeAndClose_no_directory :
    let s := fileCall 0x16 (fcb 0x10 0x00 [])
    AtTrap 0x0005 s ∧ s.host.fails = [] ∧ s.fcbDrive = some 15 ∧ s.host.dirExists (driveLetter 15) = false :=
  ⟨⟨rfl, rfl, rfl, rfl, rfl⟩, by decide⟩
theorem witness_OpenMakeAndClose_host_error :
    (let s := hostFailing (fileCall 0x0F (fcb 0x00 0x00 [0x54, 0x58, 0x54]))
     AtTrap 0x0005 s ∧ s.mem.wf = true ∧ s.host.fails = true :: [] ∧ s.fcbDrive = some 0) ∧
    (let s := hostFailing (fileCall 0x16 (fcb 0x02 0x00 []))
     AtTrap 0x0005 s ∧ s.host.fails = true :: [] ∧ s.fcbDrive = some 1 ∧
      s.host.fileExists (driveLetter 1) (cpmToHost s.fcbName) = false) ∧
    (let s := hostFailing (fileCall 0x10 (fcb 0x00 0x01 []))
     AtTrap 0x0005 s ∧ s.host.fails = true :: [] ∧ (handle? s.amb.handles s.fcbHandle).isSome = true) :=
  ⟨⟨⟨rfl, rfl, rfl, rfl, rfl⟩, by decide⟩, ⟨⟨rfl, rfl, rfl, rfl, rfl⟩, by decide⟩, ⟨rfl, rfl, rfl, rfl, rfl⟩, by decide⟩

/-- No handle 2 in HANDLES; and handle 1 on a host whose next call fails, at the last `DMA` a record fits. -/
theorem witness_RecordsReadAndWritten_declined :
    ∀ fn ∈ [(0x14 : Byte), 0x15],
      (let s := fileCall fn (fcb 0x00 0x02 [])
       AtTrap 0x0005 s ∧ s.mem.wf = true ∧ s.cpu.c = fn ∧ handle? s.amb.handles s.fcbHandle = none) ∧
      (let s := (hostFailing (fileCall fn (fcb 0x00 0x01 []))).withAmb fun a => { a with dma := 0xFF80 }
       AtTrap 0x0005 s ∧ s.cpu.c = fn ∧ s.host.fails = true :: [] ∧
        (handle? s.amb.handles s.fcbHandle).isSome = true ∧ s.amb.dma.toNat + 128 ≤ 0x10000) := by
  intro fn hfn
  refine ⟨⟨⟨rfl, rfl, rfl, rfl, rfl⟩, ?_⟩, ⟨rfl, rfl, rfl, rfl, rfl⟩, ?_⟩ <;> revert fn <;> decide

/-- Handle 1 stands at the end of its file of 10 bytes; the transfer fits below 0xFFFF up to `DMA = 0xFF80`. -/
theorem witness_RecordsReadAndWritten :
    ∀ fn ∈ [(0x14 : Byte), 0x15],
      let s := (fileCall fn (fcb 0x00 0x01 [])).withAmb fun a => { a with dma := 0xFF80 }
      s.host.fails = [] ∧ s.mem.wf = true ∧ (handle? s.amb.handles s.fcbHandle).map (·.pos) = some 10 ∧
      (s.host.openFile? 0).map (·.live) = some true ∧
      ((s.host.openFile? 0).bind fun o => s.host.file? o.letter o.name).map (·.data.length) = some 10 ∧
      s.amb.dma.toNat + 128 ≤ 0x10000 ∧ s.status = .running ∧ s.cpu.pc = 0x0005 ∧ s.cpu.halt = false ∧
      s.nmiPending = false ∧ s.intRequest = none := by decide
theorem witness_RecordsReadAndWritten_overflow :
    let s := (fileCall 0x14 (fcb 0x00 0x01 [])).withAmb fun a => { a with dma := 0xFF81 }
    AtTrap 0x0005 s ∧ 0x10000 < s.amb.dma.toNat + 128 := ⟨⟨rfl, rfl, rfl, rfl, rfl⟩, by decide⟩

/-- The search of WORLD.???, the transfer at the top of memory. -/
theorem witness_SearchAndDelete_first :
    let s := (fileCall 0x11 (fcb 0x00 0x00 [0x3F, 0x3F, 0x3F])).withAmb fun a => { a with dma := 0xFFE0 }
    AtTrap 0x0005 s ∧ s.host.fails = [] ∧ s.mem.wf = true ∧ s.amb.dma.toNat + 32 ≤ 0x10000 ∧ s.fcbDrive = some 0 ∧
    (s.host.dir? (driveLetter 0)).map (fun d => (matchesOf s.fcbName (d.files.map (·.name))).length) = some 1 :=
  ⟨⟨rfl, rfl, rfl, rfl, rfl⟩, rfl, by decide, by decide, by decide, by decide⟩
theorem witness_SearchAndDelete_next :
    let it : Search := { driveByte := 0x00, drive := 0, filter := List.replicate 11 0x3F,
                         remaining := [List.replicate 11 0x41] }
    let s := (fileCall 0x12 []).withAmb fun a => { a with search := some it }
    AtTrap 0x0005 s ∧ s.amb.search = some it ∧ (List.replicate 11 (0x41 : Byte)).length = 11 ∧
    it.remaining = List.replicate 11 0x41 :: [] := ⟨⟨rfl, rfl, rfl, rfl, rfl⟩, rfl, rfl, rfl⟩
theorem witness_SearchAndDelete_exhausted :
    AtTrap 0x0005 (fileCall 0x12 []) ∧ (fileCall 0x12 []).amb.search = none := ⟨⟨rfl, rfl, rfl, rfl, rfl⟩, rfl⟩
theorem witness_SearchAndDelete_delete :
    let s := (fileCall 0x13 (fcb 0x00 0x00 [0x3F, 0x3F, 0x3F])).withHost fun h =>
      { h with dirs := [{ letter := 0x41, files :=
        [{ name := [0x57, 0x4F, 0x52, 0x4C, 0x44, 0x2E, 0x54, 0x58, 0x54], data := [] }] }] }
    AtTrap 0x0005 s ∧ s.fcbDrive = some 0 ∧
    ∃ dir m, s.host.dir? (driveLetter 0) = some dir ∧ matchesOf s.fcbName (dir.files.map (·.name)) = [m] ∧
      (∀ f ∈ dir.files, ∀ g ∈ dir.files, f.name = g.name → f = g) ∧ dir.files.Nodup :=
  ⟨⟨rfl, rfl, rfl, rfl, rfl⟩, by decide, _, _, rfl, rfl, by decide, by decide⟩

/-- The first `DMA` an image does not fit at; no match, no directory, a bad drive byte, a listing that fails. -/
theorem witness_SearchAndDelete_declined :
    (let s := (fileCall 0x11 (fcb 0x00 0x00 [0x54, 0x58, 0x54])).withAmb fun a => { a with dma := 0xFFE1 }
     AtTrap 0x0005 s ∧ s.host.fails = [] ∧ s.mem.wf = true ∧ ¬ s.amb.dma.toNat + 32 ≤ 0x10000 ∧ s.fcbDrive = some 0 ∧
      (s.host.dir? (driveLetter 0)).map (fun d => (matchesOf s.fcbName (d.files.map (·.name))).length) = some 1) ∧
    (let s := fileCall 0x11 (fcb 0x02 0x00 [])
     AtTrap 0x0005 s ∧ s.host.fails = [] ∧ s.fcbDrive = some 1 ∧
      (s.host.dir? (driveLetter 1)).map (fun d => matchesOf s.fcbName (d.files.map (·.name))) = some []) ∧
    (let s := fileCall 0x13 (fcb 0x10 0x00 [])
     AtTrap 0x0005 s ∧ s.fcbDrive = some 15 ∧ s.host.dir? (driveLetter 15) = none) ∧
    (let s := fileCall 0x11 (fcb 0x11 0x00 [])
     AtTrap 0x0005 s ∧ s.fcbDrive = none) ∧
    (let s := hostFailing (fileCall 0x13 (fcb 0x00 0x00 []))
     AtTrap 0x0005 s ∧ s.host.fails = true :: [] ∧ s.fcbDrive = some 0) :=
  ⟨⟨⟨rfl, rfl, rfl, rfl, rfl⟩, by decide⟩, ⟨⟨rfl, rfl, rfl, rfl, rfl⟩, by decide⟩, ⟨⟨rfl, rfl, rfl, rfl, rfl⟩, by decide⟩,
   ⟨⟨rfl, rfl, rfl, rfl, rfl⟩, by decide⟩, ⟨rfl, rfl, rfl, rfl, rfl⟩, by decide⟩

/-- The longest base and type, the shortest, and `hello.com`. -/
theorem witness_NamesTranslate :
    (∀ p ∈ [(List.replicate 8 (0x41 : Byte), List.replicate 3 (0x42 : Byte)), ([], [0x42])],
      0x2E ∉ p.2 ∧ p.1.length ≤ 8 ∧ p.2.length ≤ 3 ∧ p.2 ≠ [] ∧ (∀ c ∈ p.1 ++ p.2, c ≠ 0x20) ∧
      (∀ c ∈ p.1 ++ p.2, upperByte c = c)) ∧
    (let base : List Byte := [0x68, 0x65, 0x6C, 0x6C, 0x6F]
     let ext : List Byte := [0x63, 0x6F, 0x6D]
     0x2E ∉ ext ∧ base.length ≤ 8 ∧ ext.length ≤ 3 ∧ ext ≠ [] ∧ (∀ c ∈ base ++ ext, c ≠ 0x20) ∧
      ∃ c ∈ base ++ ext, upperByte c ≠ c) := by decide
/-- A name with no dot of eight bytes, and one of nine. -/
theorem witness_NamesTranslate_no_dot :
    ∀ n ∈ [8, 9], 0x2E ∉ List.replicate n (0x41 : Byte) ∧ 0x2E ∉ ([] : List Byte) := by decide

/-- The images of two bytes at 0xFFFE and at 0xFFFF; BIOS_BASE at its largest, and one too large. -/
theorem witness_LaunchSeedsMemoryAndRegisters :
    let s (base : Word) : State := { State.reset with cfg := { State.reset.cfg with biosBase := base } }
    paramsOk (s 0xFFCE).cfg = false ∧ paramsOk (s 0xFFCD).cfg = true ∧ (s 0xFFCD).mem.wf = true ∧
    (0xFFFE : Word).toNat + [(0x00 : Byte), 0x00].length ≤ 0x10000 ∧
    0x10000 < (0xFFFF : Word).toNat + [(0x00 : Byte), 0x00].length := by decide

end Sys2Proof.Machine
end

/-! SUPPORT. What an instruction keeps: the registers few instructions write (10_state.md R102, R111 to R117), the CP/M
ambient state, the parameters, the status and the canonical form of memory, said once for each operation of the state and
then for each instruction. -/

namespace Sys2Proof.Machine

/-! ## What is kept -/

/-- The registers of the file that only a few instructions write (R102, R111 to R117). -/
structure Control where
  alt : Shadow
  i : Byte
  r : Byte
  iff1 : Bool
  iff2 : Bool
  im : IntMode
  halt : Bool
  eiDelay : Bool

/-- The control registers of a register file. -/
def Cpu.control (c : Cpu) : Control :=
  { alt := c.alt, i := c.i, r := c.r, iff1 := c.iff1, iff2 := c.iff2, im := c.im, halt := c.halt, eiDelay := c.eiDelay }

/-- From `s` to `t` the components the invariant speaks of are kept: the ambient state and the parameters as they were,
memory in canonical form where it was. -/
structure Sustains (s t : State) : Prop where
  amb : t.amb = s.amb
  cfg : t.cfg = s.cfg
  memory : s.mem.wf = true → t.mem.wf = true

/-- From `s` to `t` an ordinary effect has taken place: the control registers and the status are kept too. -/
structure Keeps (s t : State) : Prop extends Sustains s t where
  control : t.cpu.control = s.cpu.control
  status : t.status = s.status

theorem Sustains.inv {s t : State} (h : Sustains s t) (hs : s.Inv) : t.Inv where
  memory := h.memory hs.memory
  handles := by rw [handlesWf, h.amb, h.cfg]; exact hs.handles
  search := by rw [h.amb]; exact hs.search

/-! ## One rule per operation of the state -/

namespace Keeps

variable {s t : State}

theorem self (s : State) : Keeps s s := ⟨⟨rfl, rfl, id⟩, rfl, rfl⟩

theorem withCpu (h : Keeps s t) {f : Cpu → Cpu} (hf : ∀ c, (f c).control = c.control) : Keeps s (t.withCpu f) :=
  { amb := h.amb, cfg := h.cfg, memory := h.memory, control := (hf t.cpu).trans h.control, status := h.status }

theorem withHost (h : Keeps s t) (f : HostEnv → HostEnv) : Keeps s (t.withHost f) :=
  { amb := h.amb, cfg := h.cfg, memory := h.memory, control := h.control, status := h.status }

theorem afterDraw (h : Keeps s t) : Keeps s t.afterDraw := h.withHost _

theorem setReg (h : Keeps s t) (r : Reg8) (v : Byte) : Keeps s (t.setReg r v) := by
  cases r <;> exact ⟨⟨h.amb, h.cfg, h.memory⟩, h.control, h.status⟩

theorem setA (h : Keeps s t) (v : Byte) : Keeps s (t.setA v) := h.withCpu fun _ => rfl
theorem setB (h : Keeps s t) (v : Byte) : Keeps s (t.setB v) := h.withCpu fun _ => rfl
theorem setBc (h : Keeps s t) (v : Word) : Keeps s (t.setBc v) := h.withCpu fun _ => rfl
theorem setDe (h : Keeps s t) (v : Word) : Keeps s (t.setDe v) := h.withCpu fun _ => rfl
theorem setHl (h : Keeps s t) (v : Word) : Keeps s (t.setHl v) := h.withCpu fun _ => rfl
theorem setAf (h : Keeps s t) (v : Word) : Keeps s (t.setAf v) := h.withCpu fun _ => rfl
theorem setSp (h : Keeps s t) (v : Word) : Keeps s (t.setSp v) := h.withCpu fun _ => rfl
theorem setPc (h : Keeps s t) (v : Word) : Keeps s (t.setPc v) := h.withCpu fun _ => rfl
theorem setF (h : Keeps s t) (v : Byte) : Keeps s (t.setF v) := h.withCpu fun _ => rfl
theorem setFlags (h : Keeps s t) (v : Flags) : Keeps s (t.setFlags v) := h.setF _
theorem closing (h : Keeps s t) (fm : Format) : Keeps s (t.closing fm) := h.setPc _

theorem setXy (h : Keeps s t) (x : XY) (v : Word) : Keeps s (t.setXy x v) := by
  cases x <;> exact ⟨⟨h.amb, h.cfg, h.memory⟩, h.control, h.status⟩

theorem setPair (h : Keeps s t) (p : Pair) (v : Word) : Keeps s (t.setPair p v) := by
  cases p
  · exact h.setBc v
  · exact h.setDe v
  · exact h.setHl v
  · exact h.setSp v

theorem setPairAf (h : Keeps s t) (p : PairAf) (v : Word) : Keeps s (t.setPairAf p v) := by
  cases p
  · exact h.setBc v
  · exact h.setDe v
  · exact h.setHl v
  · exact h.setAf v

theorem setHalf (h : Keeps s t) (x : XY) (k : Half) (v : Byte) : Keeps s (t.setHalf x k v) := by
  cases k <;> exact h.setXy x _

theorem setRegX (h : Keeps s t) (x : XY) (r : RegX) (v : Byte) : Keeps s (t.setRegX x r v) := by
  cases r
  case hi => exact h.setHalf x .hi v
  case lo => exact h.setHalf x .lo v
  case b => exact h.setReg .b v
  case c => exact h.setReg .c v
  case d => exact h.setReg .d v
  case e => exact h.setReg .e v
  case a => exact h.setReg .a v

theorem poke (h : Keeps s t) (a : Word) (v : Byte) : Keeps s (t.poke a v) :=
  { h with memory := fun w => Memory.write_wf (h.memory w) a v }

theorem poke16 (h : Keeps s t) (a v : Word) : Keeps s (t.poke16 a v) :=
  { h with memory := fun w => Memory.write16_wf (h.memory w) a v }

theorem push16 (h : Keeps s t) (v : Word) : Keeps s (t.push16 v) := (((h.setSp _).poke _ _).setSp _).poke _ _

theorem popPc (h : Keeps s t) : Keeps s t.popPc := (h.setPc _).setSp _

theorem drawFlags (h : Keeps s t) (mask : Byte) : Keeps s (t.drawFlags mask) := (h.setF _).afterDraw

/-! ### The operand forms and the effects several instructions share -/

theorem setAcc (h : Keeps s t) (r : Byte × Flags) : Keeps s (t.setAcc r) := (h.setA _).setFlags _

theorem onA (h : Keeps s t) (f : Byte → Byte × Flags) : Keeps s (t.onA f) := (h.setA _).setFlags _

theorem onReg (h : Keeps s t) (r : Reg8) (f : Byte → Byte × Flags) : Keeps s (t.onReg r f) := (h.setReg r _).setFlags _

theorem onMem (h : Keeps s t) (a : Word) (f : Byte → Byte × Flags) : Keeps s (t.onMem a f) := (h.poke a _).setFlags _

theorem onHalf (h : Keeps s t) (x : XY) (k : Half) (f : Byte → Byte × Flags) : Keeps s (t.onHalf x k f) :=
  (h.setHalf x k _).setFlags _

theorem transferByte (delta : Word) (s : State) : Keeps s (transferByte delta s) :=
  (((((self s).poke _ _).setHl _).setDe _).setBc _).setFlags _

theorem compareByte (delta : Word) (s : State) : Keeps s (compareByte delta s) :=
  (((self s).setHl _).setBc _).setFlags _

theorem inByte (delta : Word) (s : State) : Keeps s (inByte delta s) :=
  (((((self s).withHost _).poke _ _).setHl _).setB _).setFlags _

theorem outByte (delta : Word) (s : State) : Keeps s (outByte delta s) :=
  ((((self s).setB _).withHost _).setHl _).setFlags _

theorem jumpIf (h : Keeps s t) (fm : Format) (taken : Bool) (target : Word) : Keeps s (jumpIf fm taken target t) := by
  cases taken
  · exact h.closing fm
  · exact h.setPc target

theorem callTo (h : Keeps s t) (fm : Format) (target : Word) : Keeps s (callTo fm target t) := (h.push16 _).setPc _

theorem ite {p : Prop} [Decidable p] {u v : State} (hu : Keeps s u) (hv : Keeps s v) : Keeps s (if p then u else v) := by
  split
  · exact hu
  · exact hv

end Keeps

/-! ## One rule per frame of an instruction -/

/-- The result of an instruction of format `fm` from `s` that is no writer of a control register: a next state, and what
the effect has kept since the advance of `R` and the clearing of `EI_DELAY` (R116, R117). -/
def Ordinary (fm : Format) (s : State) (r : Result) : Prop := ∃ t, r = .next t ∧ Keeps (s.opening fm) t

namespace Ordinary

variable {fm : Format} {s : State} {effect : State → State}

theorem straight (h : ∀ u, Keeps u (effect u)) : Ordinary fm s (straight fm effect s) := ⟨_, rfl, (h _).closing _⟩

theorem transfer (h : ∀ u, Keeps u (effect u)) : Ordinary fm s (transfer fm effect s) := ⟨_, rfl, h _⟩

theorem iteration {mask : Byte} {again : State → Bool} (h : ∀ u, Keeps u (effect u)) :
    Ordinary .ed2 s (iteration mask effect again s) := by
  rcases iteration_cases mask effect again s with ⟨-, e⟩ | ⟨-, e⟩
  · exact ⟨_, e, (h _).drawFlags _⟩
  · exact ⟨_, e, (h _).closing _⟩

end Ordinary

/-! ## The instructions -/

/-- The instructions R102 and R111 to R116 name as writers of a control register, and `LD R,A` (R418). -/
def controlWriters : List Instr :=
  [.halt, .reti, .retn, .exAfAf, .exx, .ldIA, .ldRefreshA, .im0, .im1, .im2, .di, .ei]

/-- Every instruction that is no writer of a control register completes and keeps them all. -/
theorem exec_ordinary (i : Instr) (s : State) (hi : i ∉ controlWriters) : Ordinary i.format s (exec i s) := by
  unfold exec
  cases i with
  | exAfAf | exx | ldIA | ldRefreshA | im0 | im1 | im2 | di | ei | reti | retn | halt => simp [controlWriters] at hi
  -- Loads
  | ldRR | ldRN | ldRHl | ldRIxd | ldRIyd => exact .straight fun u => (Keeps.self u).setReg _ _
  | ldHlR | ldIxdR | ldIydR | ldHlN | ldIxdN | ldIydN | ldBcA | ldDeA | ldNnA =>
    exact .straight fun u => (Keeps.self u).poke _ _
  | ldABc | ldADe | ldANn => exact .straight fun u => (Keeps.self u).setA _
  | ldAI | ldARefresh => exact .straight fun u => ((Keeps.self u).setA _).setFlags _
  | ldIxHalves | ldIyHalves => exact .straight fun u => (Keeps.self u).setRegX _ _ _
  | ldIxhN | ldIyhN => exact .straight fun u => (Keeps.self u).setHalf _ _ _
  | ldDdNn | ldDdMem => exact .straight fun u => (Keeps.self u).setPair _ _
  | ldIxNn | ldIyNn | ldIxMem | ldIyMem => exact .straight fun u => (Keeps.self u).setXy _ _
  | ldHlMem => exact .straight fun u => (Keeps.self u).setHl _
  | ldMemHl | ldMemDd | ldMemIx | ldMemIy => exact .straight fun u => (Keeps.self u).poke16 _ _
  | ldSpHl | ldSpIx | ldSpIy => exact .straight fun u => (Keeps.self u).setSp _
  | pushQq | pushIx | pushIy => exact .straight fun u => (Keeps.self u).push16 _
  | popQq => exact .straight fun u => ((Keeps.self u).setSp _).setPairAf _ _
  | popIx | popIy => exact .straight fun u => ((Keeps.self u).setSp _).setXy _ _
  -- Exchange, block transfer and block search
  | exDeHl => exact .straight fun u => ((Keeps.self u).setDe _).setHl _
  | exSpHl => exact .straight fun u => ((Keeps.self u).poke16 _ _).setHl _
  | exSpIx | exSpIy => exact .straight fun u => ((Keeps.self u).poke16 _ _).setXy _ _
  | ldi | ldd => exact .straight fun u => .transferByte _ u
  | ldir | lddr => exact .iteration fun u => .transferByte _ u
  | cpi | cpd => exact .straight fun u => .compareByte _ u
  | cpir | cpdr => exact .iteration fun u => .compareByte _ u
  -- 8-bit arithmetic and logic
  | addR | addN | addHl | addIxd | addIyd | addIxh | addIyh | adcR | adcN | adcHl | adcIxd | adcIyd | adcIxh | adcIyh
  | subR | subN | subHl | subIxd | subIyd | subIxh | subIyh | sbcR | sbcN | sbcHl | sbcIxd | sbcIyd | sbcIxh | sbcIyh
  | andR | andN | andHl | andIxd | andIyd | andIxh | andIyh | xorR | xorN | xorHl | xorIxd | xorIyd | xorIxh | xorIyh
  | orR | orN | orHl | orIxd | orIyd | orIxh | orIyh => exact .straight fun u => (Keeps.self u).setAcc _
  | cpR | cpN | cpHl | cpIxd | cpIyd | cpIxh | cpIyh => exact .straight fun u => (Keeps.self u).setFlags _
  | incR | decR => exact .straight fun u => (Keeps.self u).onReg _ _
  | incHl | incIxd | incIyd | decHl | decIxd | decIyd => exact .straight fun u => (Keeps.self u).onMem _ _
  | incIxh | incIyh | decIxh | decIyh => exact .straight fun u => (Keeps.self u).onHalf _ _ _
  -- Accumulator, flag and CPU control
  | daa | cpl | neg | rlca | rla | rrca | rra => exact .straight fun u => (Keeps.self u).onA _
  | ccf | scf => exact .straight fun u => (Keeps.self u).setFlags _
  | nop => exact .straight Keeps.self
  -- 16-bit arithmetic
  | addHlSs | adcHlSs | sbcHlSs => exact .straight fun u => ((Keeps.self u).setHl _).setFlags _
  | addIxPp | addIyPp => exact .straight fun u => ((Keeps.self u).setXy _ _).setFlags _
  | incSs | decSs => exact .straight fun u => (Keeps.self u).setPair _ _
  | incIx | incIy | decIx | decIy => exact .straight fun u => (Keeps.self u).setXy _ _
  -- Rotates and shifts
  | rlcR | rrcR | rlR | rrR | slaR | sraR | sllR | srlR => exact .straight fun u => (Keeps.self u).onReg _ _
  | rlcHl | rlcIxd | rlcIyd | rrcHl | rrcIxd | rrcIyd | rlHl | rlIxd | rlIyd | rrHl | rrIxd | rrIyd
  | slaHl | slaIxd | slaIyd | sraHl | sraIxd | sraIyd | sllHl | sllIxd | sllIyd | srlHl | srlIxd | srlIyd =>
    exact .straight fun u => (Keeps.self u).onMem _ _
  | rld | rrd => exact .straight fun u => (((Keeps.self u).poke _ _).setA _).setFlags _
  -- Bit test, set and reset
  | bitBR | bitBIxd | bitBIyd => exact .straight fun u => (Keeps.self u).setFlags _
  | bitBHl => exact .straight fun u => ((Keeps.self u).setFlags _).afterDraw
  | setBR | resBR => exact .straight fun u => (Keeps.self u).setReg _ _
  | setBHl | setBIxd | setBIyd | resBHl | resBIxd | resBIyd => exact .straight fun u => (Keeps.self u).poke _ _
  -- Jump, call and return
  | jpNn | jrE | jpHl | jpIx | jpIy => exact .transfer fun u => (Keeps.self u).setPc _
  | jpCcNn | jrCcE => exact .transfer fun u => (Keeps.self u).jumpIf _ _ _
  | djnzE => exact .transfer fun u => ((Keeps.self u).setB _).jumpIf _ _ _
  | callNn | rstP => exact .transfer fun u => (Keeps.self u).callTo _ _
  | callCcNn => exact .transfer fun u => .ite ((Keeps.self u).callTo _ _) ((Keeps.self u).closing _)
  | ret => exact .transfer fun u => (Keeps.self u).popPc
  | retCc => exact .transfer fun u => .ite (Keeps.self u).popPc ((Keeps.self u).closing _)
  -- Input and output
  | inAN => exact .straight fun u => ((Keeps.self u).setA _).withHost _
  | inRC => exact .straight fun u => (((Keeps.self u).setReg _ _).setFlags _).withHost _
  | ini | ind => exact .straight fun u => .inByte _ u
  | inir | indr => exact .iteration fun u => .inByte _ u
  | outNA | outCR => exact .straight fun u => (Keeps.self u).withHost _
  | outi | outd => exact .straight fun u => .outByte _ u
  | otir | otdr => exact .iteration fun u => .outByte _ u

theorem straight_sustains {fm : Format} {effect : State → State} {s : State} (h : ∀ u, Sustains u (effect u)) :
    ∃ t, straight fm effect s = .next t ∧ Sustains s t :=
  ⟨_, rfl, (h (s.opening fm)).amb, (h (s.opening fm)).cfg, (h (s.opening fm)).memory⟩

theorem transfer_sustains {fm : Format} {effect : State → State} {s : State} (h : ∀ u, Sustains u (effect u)) :
    ∃ t, transfer fm effect s = .next t ∧ Sustains s t :=
  ⟨_, rfl, (h (s.opening fm)).amb, (h (s.opening fm)).cfg, (h (s.opening fm)).memory⟩

theorem raise_sustains (f : Fault) (s : State) : ∃ t, raise f s = .next t ∧ Sustains s t := ⟨_, rfl, rfl, rfl, id⟩

/-- HALT faults with `IFF1 = 0`, and sets a latch with `IFF1 = 1` (R706). -/
theorem execHalt_sustains (s : State) : ∃ t, execHalt s = .next t ∧ Sustains s t := by
  unfold execHalt
  split
  · exact straight_sustains fun _ => ⟨rfl, rfl, id⟩
  · exact raise_sustains _ s

theorem exec_writer_sustains {i : Instr} (hi : i ∈ controlWriters) (s : State) :
    ∃ t, exec i s = .next t ∧ Sustains s t := by
  simp only [controlWriters, List.mem_cons, List.not_mem_nil, or_false] at hi
  unfold exec
  rcases hi with rfl | rfl | rfl | hi
  · exact execHalt_sustains s
  · exact transfer_sustains fun _ => ⟨rfl, rfl, id⟩
  · exact transfer_sustains fun _ => ⟨rfl, rfl, id⟩
  · rcases hi with rfl | rfl | rfl | rfl | rfl | rfl | rfl | rfl | rfl <;>
      exact straight_sustains fun _ => ⟨rfl, rfl, id⟩

/-- Every instruction answers a next state, and keeps what the invariant speaks of. -/
theorem exec_sustains (i : Instr) (s : State) : ∃ t, exec i s = .next t ∧ Sustains s t := by
  by_cases hi : i ∈ controlWriters
  · exact exec_writer_sustains hi s
  · obtain ⟨t, e, k⟩ := exec_ordinary i s hi
    exact ⟨t, e, k.amb, k.cfg, k.memory⟩

/-! ## The control registers after an instruction (R102, R111 to R117) -/

theorem and_0x80_toNat (r : Byte) : r.toNat &&& 128 = r.toNat / 128 * 128 := by
  revert r
  decide

/-- `R` after `m` M1 cycles as a number: bit 7 kept, bits 6..0 advanced modulo 128 (R112, R117). -/
theorem bumpR_toNat (m : Nat) (r : Byte) : (bumpR m r).toNat = r.toNat / 128 * 128 + (r.toNat + m) % 128 := by
  have low : (r + BitVec.ofNat 8 m).toNat &&& 127 = (r.toNat + m) % 128 := by
    rw [show 127 = 2 ^ 7 - 1 from rfl, Nat.and_two_pow_sub_one_eq_mod, BitVec.toNat_add, BitVec.toNat_ofNat]
    omega
  have join := Nat.shiftLeft_add_eq_or_of_lt (i := 7) (b := (r.toNat + m) % 128) (Nat.mod_lt _ (by decide))
    (r.toNat / 128)
  rw [Nat.shiftLeft_eq] at join
  calc (bumpR m r).toNat
      = (r.toNat &&& 128) ||| ((r + BitVec.ofNat 8 m).toNat &&& 127) := by simp [bumpR]
    _ = r.toNat / 128 * 128 + (r.toNat + m) % 128 := by rw [and_0x80_toNat, low, join]

theorem bumpR_low (m : Nat) (r : Byte) : (bumpR m r).toNat % 128 = (r.toNat + m) % 128 := by
  rw [bumpR_toNat]
  omega

theorem bumpR_bit7 (m : Nat) (r : Byte) : (bumpR m r).toNat / 128 = r.toNat / 128 := by
  rw [bumpR_toNat]
  omega

/-- An ordinary instruction advances `R` and clears `EI_DELAY`, and keeps every other control register. -/
theorem Keeps.control_of_opening {fm : Format} {s t : State} (k : Keeps (s.opening fm) t) :
    t.cpu.control = { s.cpu.control with r := bumpR fm.m1 s.cpu.r, eiDelay := false } := k.control

/-- Settles O46: an instruction that is no writer of a control register keeps them all, and each writer keeps those it
is not named for. -/
theorem controlRegistersHaveFewWriters : Obligations.ControlRegistersHaveFewWriters := by
  intro i s t _ hx ht
  by_cases hi : i ∈ controlWriters
  · simp only [controlWriters, List.mem_cons, List.not_mem_nil, or_false] at hi
    unfold exec at hx
    rcases hi with rfl | hi
    · simp only [execHalt] at hx
      split at hx
      · cases hx
        simp [bumpR_low, bumpR_bit7, Instr.format]
      · cases hx
        simp at ht
    · -- A writer that cannot fault: its updates are read off field by field.
      rcases hi with rfl | rfl | rfl | rfl | rfl | rfl | rfl | rfl | rfl | rfl | rfl <;> cases hx <;>
        simp [bumpR_low, bumpR_bit7, Instr.format, returnFromHandler_spec, swapAf, swapMain]
  · obtain ⟨u, e, k⟩ := exec_ordinary i s hi
    obtain rfl : u = t := by simpa [hx] using e.symm
    have c := k.control_of_opening
    simp only [Cpu.control, Control.mk.injEq] at c
    obtain ⟨alt, vec, r, iff1, iff2, im, halt, delay⟩ := c
    refine ⟨.inl alt, .inl vec, .inl im, .inl ⟨iff1, iff2⟩, .inl halt, .inl delay, .inl ?_⟩
    rw [r]
    exact ⟨bumpR_low _ _, bumpR_bit7 _ _⟩

end Sys2Proof.Machine

/-! SUPPORT. The parts of the invariant one by one: the handle pool (R124), the 11-byte names of a search (R123, R1302,
R1340), and the invariant under each update of the state a BDOS function makes. -/

namespace Sys2Proof.Machine

/-! ## The handle pool -/

theorem handlesRising_cons {lo hi k : Nat} {r : HandleRec} {hs : List (Nat × HandleRec)} :
    handlesRising lo hi ((k, r) :: hs) = true ↔ (lo ≤ k ∧ k ≤ hi) ∧ handlesRising (k + 1) hi hs = true := by
  simp [handlesRising]

theorem handlesRising_mono {lo lo' hi : Nat} (hl : lo' ≤ lo) {hs : List (Nat × HandleRec)}
    (h : handlesRising lo hi hs = true) : handlesRising lo' hi hs = true := by
  cases hs with
  | nil => rfl
  | cons p hs =>
    rw [handlesRising_cons] at h ⊢
    exact ⟨⟨by omega, h.1.2⟩, h.2⟩

theorem handlesRising_setHandle {lo hi k : Nat} (r : HandleRec) (hlo : lo ≤ k) (hhi : k ≤ hi)
    {hs : List (Nat × HandleRec)} (h : handlesRising lo hi hs = true) :
    handlesRising lo hi (setHandle k r hs) = true := by
  induction hs generalizing lo with
  | nil => simp [setHandle, handlesRising, hlo, hhi]
  | cons p hs ih =>
    obtain ⟨j, q⟩ := p
    obtain ⟨hj, hrest⟩ := handlesRising_cons.mp h
    simp only [setHandle]
    split
    · exact handlesRising_cons.mpr ⟨⟨hlo, hhi⟩, handlesRising_cons.mpr ⟨⟨by omega, hj.2⟩, hrest⟩⟩
    · split
      case isTrue e =>
        subst e
        exact handlesRising_cons.mpr ⟨hj, hrest⟩
      case isFalse => exact handlesRising_cons.mpr ⟨hj, ih (by omega) hrest⟩

theorem handlesRising_dropHandle {lo hi : Nat} (k : Nat) {hs : List (Nat × HandleRec)}
    (h : handlesRising lo hi hs = true) : handlesRising lo hi (dropHandle k hs) = true := by
  induction hs generalizing lo with
  | nil => rfl
  | cons p hs ih =>
    obtain ⟨hp, hrest⟩ := handlesRising_cons.mp h
    simp only [dropHandle, List.filter_cons]
    split
    · exact handlesRising_cons.mpr ⟨hp, ih hrest⟩
    · exact handlesRising_mono (by omega) (ih hrest)

theorem bounds_of_mem_handles {lo hi : Nat} {p : Nat × HandleRec} {hs : List (Nat × HandleRec)}
    (h : handlesRising lo hi hs = true) (hp : p ∈ hs) : lo ≤ p.1 ∧ p.1 ≤ hi := by
  induction hs generalizing lo with
  | nil => cases hp
  | cons q hs ih =>
    obtain ⟨hq, hrest⟩ := handlesRising_cons.mp h
    rcases List.mem_cons.mp hp with rfl | hp
    · exact hq
    · have := ih hrest hp
      omega

theorem bounds_of_handle? {lo hi k : Nat} {r : HandleRec} {hs : List (Nat × HandleRec)}
    (h : handlesRising lo hi hs = true) (hk : handle? hs k = some r) : lo ≤ k ∧ k ≤ hi := by
  obtain ⟨p, hp, -⟩ := Option.map_eq_some_iff.mp hk
  have hkey : p.1 = k := by simpa using List.find?_some hp
  exact hkey ▸ bounds_of_mem_handles h (List.mem_of_find?_eq_some hp)

theorem leastFree_bounds {hs : List (Nat × HandleRec)} {n lo k : Nat} (h : leastFree hs n lo = some k) :
    lo ≤ k ∧ k < lo + n := by
  induction n generalizing lo with
  | zero => simp [leastFree] at h
  | succ n ih =>
    simp only [leastFree] at h
    split at h
    · have := ih h
      omega
    · cases h
      omega

theorem freeHandle_bounds {s : State} {k : Nat} (h : s.freeHandle = some k) : 1 ≤ k ∧ k ≤ s.cfg.maxOpenFiles := by
  have := leastFree_bounds h
  omega

/-! ## Names of 11 bytes -/

theorem readBytes_length (m : Memory) (n : Nat) (a : Word) : (m.readBytes n a).length = n := by
  induction n generalizing a with
  | zero => rfl
  | succ n ih => simp [Memory.readBytes, ih]

theorem padUpper_length {n : Nat} {name : List Byte} (h : name.length ≤ n) : (padUpper n name).length = n := by
  simp [padUpper]
  omega

theorem hostToCpm_length {name c : List Byte} (h : hostToCpm name = some c) : c.length = 11 := by
  simp only [hostToCpm] at h
  split at h
  · cases h
  · cases h
    rw [List.length_append, padUpper_length (by omega), padUpper_length (by omega)]

theorem matchesOf_length {filt : List Byte} {names : List (List Byte)} {m : List Byte × List Byte}
    (h : m ∈ matchesOf filt names) : m.2.length = 11 := by
  obtain ⟨n, -, hn⟩ := List.mem_filterMap.mp h
  split at hn
  next c hc =>
    split at hn
    · cases hn
      exact hostToCpm_length hc
    · cases hn
  · cases hn

theorem searchWf_some {it : Search} :
    searchWf (some it) = true ↔ it.filter.length = 11 ∧ ∀ c ∈ it.remaining, c.length = 11 := by
  simp [searchWf]

/-! ## The invariant under each update -/

namespace State.Inv

variable {s : State}

theorem setHost (h : s.Inv) (e : HostEnv) : State.Inv { s with host := e } := ⟨h.memory, h.handles, h.search⟩

theorem withHost (h : s.Inv) (f : HostEnv → HostEnv) : (s.withHost f).Inv := h.setHost _

theorem setStatus (h : s.Inv) (v : Status) : (s.setStatus v).Inv := ⟨h.memory, h.handles, h.search⟩

theorem withCpu (h : s.Inv) (f : Cpu → Cpu) : (s.withCpu f).Inv := ⟨h.memory, h.handles, h.search⟩

theorem result8 (h : s.Inv) (v : Byte) : (s.result8 v).Inv := ⟨h.memory, h.handles, h.search⟩

theorem pokeBytes (h : s.Inv) (a : Word) (vs : List Byte) : (s.pokeBytes a vs).Inv :=
  ⟨Memory.writeBytes_wf h.memory vs a, h.handles, h.search⟩

theorem poke (h : s.Inv) (a : Word) (v : Byte) : (s.poke a v).Inv := h.pokeBytes a [v]

theorem setFcbHandle (h : s.Inv) (k : Nat) : (s.setFcbHandle k).Inv :=
  ⟨Memory.write16_wf h.memory _ _, h.handles, h.search⟩

/-- An update of the ambient state that leaves `HANDLES` and `SEARCH`. -/
theorem withAmb (h : s.Inv) {f : Ambient → Ambient} (hh : (f s.amb).handles = s.amb.handles)
    (hs : (f s.amb).search = s.amb.search) : (s.withAmb f).Inv where
  memory := h.memory
  handles := by
    show handlesRising 1 s.cfg.maxOpenFiles (f s.amb).handles = true
    rw [hh]
    exact h.handles
  search := by
    show searchWf (f s.amb).search = true
    rw [hs]
    exact h.search

theorem setSearch (h : s.Inv) {it : Option Search} (hit : searchWf it = true) :
    (s.withAmb fun a => { a with search := it }).Inv := ⟨h.memory, h.handles, hit⟩

theorem setHandles (h : s.Inv) {hs : List (Nat × HandleRec)} (hr : handlesRising 1 s.cfg.maxOpenFiles hs = true) :
    (s.withAmb fun a => { a with handles := hs }).Inv := ⟨h.memory, hr, h.search⟩

theorem insertHandle (h : s.Inv) {k : Nat} (lo : 1 ≤ k) (hi : k ≤ s.cfg.maxOpenFiles) (r : HandleRec) :
    (s.withAmb fun a => { a with handles := setHandle k r a.handles }).Inv :=
  h.setHandles (handlesRising_setHandle r lo hi h.handles)

theorem dropHandle (h : s.Inv) (k : Nat) : (s.withAmb fun a => { a with handles := dropHandle k a.handles }).Inv :=
  h.setHandles (handlesRising_dropHandle k h.handles)

theorem advance (h : s.Inv) {k : Nat} {r : HandleRec} (hk : handle? s.amb.handles k = some r) (n : Nat) :
    (s.advance k r n).Inv :=
  have ⟨lo, hi⟩ := bounds_of_handle? h.handles hk
  h.insertHandle lo hi _

theorem invalidateSearch (h : s.Inv) (fn : Byte) : (invalidateSearch fn s).Inv := by
  unfold Machine.invalidateSearch
  split
  · exact h
  · exact h.setSearch rfl

end State.Inv

end Sys2Proof.Machine

/-! SUPPORT. O43 and O41: each event of a running machine answers a next state (10_state.md R126), and each keeps the
invariant. -/

namespace Sys2Proof.Machine

/-! ## What a BDOS or BIOS function ends in -/

/-- If the function ends in a state, `P` holds of it; a fault leaves the state of the step (R1501). -/
def TrapResult.Yields (P : State → Prop) : TrapResult → Prop
  | .done t => P t
  | .fault _ _ => True

theorem finishTrap_sustains {s : State} {r : TrapResult} (h : r.Yields (Sustains s)) :
    ∃ t, finishTrap s r = .next t ∧ Sustains s t := by
  rcases finishTrap_cases s r with ⟨u, rfl, e⟩ | ⟨f, e, rfl, eq⟩
  · exact ⟨_, e, h.amb, h.cfg, h.memory⟩
  · exact ⟨_, eq, rfl, rfl, id⟩

theorem finishTrap_inv {s : State} {r : TrapResult} (hs : s.Inv) (h : r.Yields State.Inv) :
    ∃ t, finishTrap s r = .next t ∧ t.Inv := by
  rcases finishTrap_cases s r with ⟨u, rfl, e⟩ | ⟨f, e, rfl, eq⟩
  · exact ⟨_, e, h.memory, h.handles, h.search⟩
  · exact ⟨_, eq, (hs.setHost e).setStatus (.faulted f)⟩

/-! ## BIOS -/

theorem biosConst_yields (s : State) : (biosConst s).Yields (Sustains s) := ⟨rfl, rfl, id⟩

theorem biosConIn_yields (s : State) : (biosConIn s).Yields (Sustains s) := by
  unfold biosConIn
  split
  · trivial
  · exact ⟨rfl, rfl, id⟩

theorem biosOut_yields (s : State) : (biosOut s).Yields (Sustains s) := by
  unfold biosOut
  split
  · trivial
  · exact ⟨rfl, rfl, id⟩

theorem biosFunction_yields {slot : Nat} {run : State → TrapResult} (h : biosFunction slot = some run) (s : State) :
    (run s).Yields (Sustains s) := by
  unfold biosFunction at h
  split at h <;> cases h
  · exact biosConst_yields s
  · exact biosConIn_yields s
  · exact biosOut_yields s
  · exact biosOut_yields s

theorem biosTrap_sustains (slot : Nat) (s : State) : ∃ t, biosTrap slot s = .next t ∧ Sustains s t := by
  unfold biosTrap
  split
  · exact raise_sustains _ s
  · exact finishTrap_sustains (biosFunction_yields ‹_› s)

/-! ## Interrupts, the halted idle step and an instruction -/

theorem enterHandler_sustains (iff2 : Bool) (target : State → Word) (s : State) :
    Sustains s (enterHandler iff2 target s) := by
  obtain ⟨p, rfl, e, -⟩ := enterHandler_spec iff2 target s
  rw [e]
  exact { amb := by simp, cfg := by simp, memory := fun w => by simp [Memory.write_wf, w] }

theorem acceptNmi_sustains (s : State) : ∃ t, acceptNmi s = .next t ∧ Sustains s t :=
  have h := enterHandler_sustains s.cpu.iff2 (fun _ => 0x0066#16) (s.withHost fun h => { h with nmiPending := false })
  ⟨_, rfl, h.amb, h.cfg, h.memory⟩

theorem acceptInt_sustains (bus : Byte) (s : State) : ∃ t, acceptInt bus s = .next t ∧ Sustains s t := by
  unfold acceptInt
  split
  · split
    · exact ⟨_, rfl, enterHandler_sustains _ _ s⟩
    · exact raise_sustains _ s
  · exact ⟨_, rfl, enterHandler_sustains _ _ s⟩
  · exact ⟨_, rfl, enterHandler_sustains _ _ s⟩

theorem instructionStep_sustains (s : State) : ∃ t, instructionStep s = .next t ∧ Sustains s t := by
  unfold instructionStep
  split
  · exact exec_sustains _ s
  · exact raise_sustains _ s

/-- Every event but a BDOS trap answers a next state with the ambient state as it was (R1315). -/
theorem loopStep_sustains {s : State} (h : nextEvent s ≠ .bdos) : ∃ t, loopStep s = .next t ∧ Sustains s t := by
  unfold loopStep
  split
  · exact acceptNmi_sustains s
  · exact acceptInt_sustains _ s
  · exact ⟨_, rfl, rfl, rfl, id⟩
  · exact ⟨_, rfl, rfl, rfl, id⟩
  · exact absurd ‹_› h
  · exact biosTrap_sustains _ s
  · exact instructionStep_sustains s

/-! ## BDOS -/

section
variable {s : State} (h : s.Inv)
include h

theorem answer_yields (v : Byte) : (answer v s).Yields State.Inv := h.result8 v

theorem dmaWrite_yields {bytes : List Byte} {rest : State → TrapResult}
    (hr : ∀ u : State, u.Inv → (rest u).Yields State.Inv) : (dmaWrite bytes s rest).Yields State.Inv := by
  unfold dmaWrite
  split
  · trivial
  · exact hr _ (h.pokeBytes _ _)

theorem takeHandle_yields (d : Fin 16) (name : List Byte) (fid : Nat) :
    (takeHandle d name fid s).Yields State.Inv := by
  unfold takeHandle
  split
  · exact answer_yields (h.withHost _) _
  next k hk =>
    obtain ⟨lo, hi⟩ := freeHandle_bounds hk
    exact answer_yields ((h.insertHandle lo hi _).setFcbHandle k) _

theorem bdosConIn_yields : (bdosConIn s).Yields State.Inv := by
  unfold bdosConIn
  split
  · trivial
  · split
    · trivial
    · exact answer_yields (h.setHost _) _

theorem bdosConOut_yields : (bdosConOut s).Yields State.Inv := by
  unfold bdosConOut
  split
  · trivial
  · exact h.setHost _

theorem bdosWriteStr_yields : (bdosWriteStr s).Yields State.Inv := by
  unfold bdosWriteStr
  split
  · trivial
  · split
    · trivial
    · exact h.setHost _

theorem bdosReadStr_yields : (bdosReadStr s).Yields State.Inv := by
  unfold bdosReadStr
  split
  · trivial
  · exact ((h.poke _ _).pokeBytes _ _).setHost _

theorem bdosConStat_yields : (bdosConStat s).Yields State.Inv := answer_yields (h.setHost _) _

theorem bdosVersion_yields : (bdosVersion s).Yields State.Inv := ((h.withCpu _).withCpu _).withCpu _

theorem bdosReset_yields : (bdosReset s).Yields State.Inv := answer_yields (h.withAmb rfl rfl) _

theorem bdosSelect_yields : (bdosSelect s).Yields State.Inv := by
  unfold bdosSelect
  split
  · dsimp only
    split
    · exact answer_yields (h.withAmb rfl rfl) _
    · exact answer_yields h _
  · exact answer_yields h _

theorem bdosCurrent_yields : (bdosCurrent s).Yields State.Inv := answer_yields h _

theorem bdosSetDma_yields : (bdosSetDma s).Yields State.Inv := h.withAmb rfl rfl

theorem bdosUser_yields : (bdosUser s).Yields State.Inv := by
  unfold bdosUser
  split
  · exact answer_yields h _
  · exact h.withAmb rfl rfl

theorem bdosOpen_yields : (bdosOpen s).Yields State.Inv := by
  unfold bdosOpen
  split
  · exact answer_yields h _
  · dsimp only
    split
    · exact answer_yields (h.setHost _) _
    · exact takeHandle_yields (h.setHost _) _ _ _

theorem bdosMake_yields : (bdosMake s).Yields State.Inv := by
  unfold bdosMake
  split
  · exact answer_yields h _
  · dsimp only
    split
    · exact answer_yields h _
    · split
      · exact answer_yields (h.setHost _) _
      · exact takeHandle_yields (h.setHost _) _ _ _

theorem bdosClose_yields : (bdosClose s).Yields State.Inv := by
  unfold bdosClose
  dsimp only
  split
  · exact answer_yields h _
  · split
    · exact answer_yields (h.setHost _) _
    · exact answer_yields (((h.setHost _).dropHandle _).setFcbHandle 0) _

theorem bdosSearchFirst_yields : (bdosSearchFirst s).Yields State.Inv := by
  unfold bdosSearchFirst
  dsimp only
  split
  · exact answer_yields h _
  · split
    · exact answer_yields (h.setHost _) _
    · split
      · exact answer_yields (h.setHost _) _
      next m ms hm =>
        refine dmaWrite_yields (h.setHost _) fun u hu => answer_yields (hu.setSearch ?_) _
        refine searchWf_some.mpr ⟨?_, ?_⟩
        · exact readBytes_length _ _ _
        · intro c hc
          obtain ⟨p, hp, rfl⟩ := List.mem_map.mp hc
          exact matchesOf_length (hm ▸ List.mem_cons_of_mem m hp)

theorem bdosSearchNext_yields : (bdosSearchNext s).Yields State.Inv := by
  unfold bdosSearchNext
  split
  · exact answer_yields h _
  next it hit =>
    obtain ⟨hfilter, hnames⟩ := searchWf_some.mp (hit ▸ h.search)
    split
    · exact answer_yields (h.setSearch rfl) _
    next c cs hcs =>
      refine dmaWrite_yields h fun u hu => answer_yields (hu.setSearch ?_) _
      exact searchWf_some.mpr ⟨hfilter, fun d hd => hnames d (hcs ▸ List.mem_cons_of_mem c hd)⟩

theorem bdosDelete_yields : (bdosDelete s).Yields State.Inv := by
  unfold bdosDelete
  split
  · exact answer_yields h _
  · split
    · exact answer_yields (h.setHost _) _
    · exact answer_yields (h.setHost _) _

theorem bdosRead_yields : (bdosRead s).Yields State.Inv := by
  unfold bdosRead
  dsimp only
  split
  · exact answer_yields h _
  next r hr =>
    split
    · trivial
    · split
      · exact answer_yields (h.setHost _) _
      · exact answer_yields (((h.setHost _).pokeBytes _ _).advance hr _) _

theorem bdosWrite_yields : (bdosWrite s).Yields State.Inv := by
  unfold bdosWrite
  dsimp only
  split
  · exact answer_yields h _
  next r hr =>
    split
    · exact answer_yields (h.setHost _) _
    next e _ => exact answer_yields ((h.setHost e).advance hr 128) _

theorem bdosFunction_yields {fn : Byte} {run : State → TrapResult} (hf : bdosFunction fn = some run) :
    (run s).Yields State.Inv := by
  unfold bdosFunction at hf
  split at hf <;> cases hf
  · exact bdosConIn_yields h
  · exact bdosConOut_yields h
  · exact bdosWriteStr_yields h
  · exact bdosReadStr_yields h
  · exact bdosConStat_yields h
  · exact bdosVersion_yields h
  · exact bdosReset_yields h
  · exact bdosSelect_yields h
  · exact bdosOpen_yields h
  · exact bdosClose_yields h
  · exact bdosSearchFirst_yields h
  · exact bdosSearchNext_yields h
  · exact bdosDelete_yields h
  · exact bdosRead_yields h
  · exact bdosWrite_yields h
  · exact bdosMake_yields h
  · exact bdosCurrent_yields h
  · exact bdosSetDma_yields h
  · exact bdosUser_yields h

theorem bdosTrap_inv : ∃ t, bdosTrap s = .next t ∧ t.Inv := by
  unfold bdosTrap
  split
  · exact ⟨_, rfl, h.setStatus _⟩
  · exact finishTrap_inv h (bdosFunction_yields (h.invalidateSearch _) ‹_›)

end

theorem bdosTrap_next (s : State) : ∃ t, bdosTrap s = .next t := by
  unfold bdosTrap
  split
  · exact ⟨_, rfl⟩
  · rcases finishTrap_cases s _ with ⟨_, _, e⟩ | ⟨_, _, _, e⟩
    · exact ⟨_, e⟩
    · exact ⟨_, e⟩

/-! ## The step -/

theorem loopStep_bdos {s : State} (h : nextEvent s = .bdos) : loopStep s = bdosTrap s := by simp [loopStep, h]

/-- Settles O43: a stopped machine has no next state, and every event of a running one answers one. -/
theorem onlyRunningMachinesStep : Obligations.OnlyRunningMachinesStep := by
  intro s
  refine ⟨fun ⟨t, h⟩ => running_of_step h, fun h => ?_⟩
  rw [step_running h]
  by_cases hb : nextEvent s = .bdos
  · rw [loopStep_bdos hb]
    exact bdosTrap_next s
  · obtain ⟨t, e, -⟩ := loopStep_sustains hb
    exact ⟨t, e⟩

/-- Settles O41: a BDOS function keeps the invariant update by update, and every other event leaves what it speaks of. -/
theorem stepKeepsTheInvariant : Obligations.StepKeepsTheInvariant := by
  intro s t hs h
  rw [step_running (running_of_step h)] at h
  by_cases hb : nextEvent s = .bdos
  · rw [loopStep_bdos hb] at h
    obtain ⟨u, e, hu⟩ := bdosTrap_inv hs
    obtain rfl : u = t := by simpa [h] using e.symm
    exact hu
  · obtain ⟨u, e, hu⟩ := loopStep_sustains hb
    obtain rfl : u = t := by simpa [h] using e.symm
    exact hu.inv hs

end Sys2Proof.Machine

/-! SUPPORT. O40: the two bytes of a word in memory, each read by itself (20_memory.md R202). -/

namespace Sys2Proof.Machine

namespace Memory

/-- A word read is its two bytes, the low one at the lower address (R202). -/
theorem read16_toNat (m : Memory) (a : Word) :
    (m.read16 a).toNat = (m.read a).toNat + 256 * (m.read (a + 1)).toNat := by
  rw [read16, cat_toNat]
  omega

/-- The byte at the lower address of a word written is its low byte: the write of the high byte is elsewhere, even where
`a + 1` wraps (R202). -/
theorem read_write16_low {m : Memory} (h : m.wf = true) (a w : Word) : (m.write16 a w).read a = lo8 w := by
  rw [write16, read_write_ne _ _ (succ_ne a), read_write h]

/-- The byte at the higher address of a word written is its high byte (R202). -/
theorem read_write16_high {m : Memory} (h : m.wf = true) (a w : Word) : (m.write16 a w).read (a + 1) = hi8 w :=
  read_write (write_wf h a (lo8 w)) (a + 1) (hi8 w)

end Memory

/-- Settles O40: the byte laws by address, and for words the two bytes a word is read from and written to. -/
theorem memoryReadsWhatWasWritten : Obligations.MemoryReadsWhatWasWritten := by
  intro m a b v w h
  refine ⟨Memory.read_write h a v, Memory.read_write_ne m v, Memory.read16_toNat m a, ?low, ?high,
    Memory.read_write16_ne m w⟩
  case low => rw [Memory.read_write16_low h, lo8_toNat]
  case high => rw [Memory.read_write16_high h, hi8_toNat]

end Sys2Proof.Machine

/-! SUPPORT. O37, O36: decoding is a left inverse of encoding (30_encoding.md R302, R310). -/

namespace Sys2Proof

open Sys2Proof.Machine (cat hi8 lo8 cat_hi8_lo8)

/-- The encoder writes as many bytes as the format of the instruction has (R310, R319). -/
theorem encode_length (i : Instr) : (encode i).length = i.length := by cases i <;> rfl

/-- Reading an instruction from the front of a list leaves the bytes after it. -/
theorem decode_of_decode4 {bs : List Byte} {i : Instr}
    (h : decode4 (bs.getD 0 0) (bs.getD 1 0) (bs.getD 2 0) (bs.getD 3 0) = .ok i) (hl : i.length ≤ bs.length) :
    decode bs = .ok (i, bs.drop i.length) := by simp only [decode, h, if_pos hl]

/-- An operand word read from its two bytes, the low one first, is that word (R310). -/
theorem read_operand_word (k : Word → Instr) {nn : Word} {r : Except DecodeError Instr}
    (h : r = .ok (k (cat (hi8 nn) (lo8 nn)))) : r = .ok (k nn) := by rw [h, cat_hi8_lo8]

/-- The values of a 3-bit field (R303). -/
theorem field_cases {P : Fin 8 → Prop} (h0 : P 0) (h1 : P 1) (h2 : P 2) (h3 : P 3) (h4 : P 4) (h5 : P 5) (h6 : P 6)
    (h7 : P 7) (y : Fin 8) : P y := by
  match y with
  | 0 => exact h0
  | 1 => exact h1
  | 2 => exact h2
  | 3 => exact h3
  | 4 => exact h4
  | 5 => exact h5
  | 6 => exact h6
  | 7 => exact h7

/-- The bytes of an index-half load are read back when one of the operands is a half; otherwise they have no row (R419, R311). -/
theorem decode4_index_half_load (r r' : RegX) (b2 b3 : Byte) :
    decode4 0xDD (op 0b01 r.code r'.code) b2 b3 =
      (if r.isHalf || r'.isHalf then .ok (.ldIxHalves r r') else .error (.undefinedXY .ix (op 0b01 r.code r'.code))) ∧
    decode4 0xFD (op 0b01 r.code r'.code) b2 b3 =
      (if r.isHalf || r'.isHalf then .ok (.ldIyHalves r r') else .error (.undefinedXY .iy (op 0b01 r.code r'.code))) := by
  cases r <;> cases r' <;> exact ⟨rfl, rfl⟩

/-- The bytes of a well-formed instruction are read as it. The cases are the kinds of operand held in a field of the opcode
byte, each evaluated at every code of that field; operand bytes and the bytes that follow stay arbitrary. -/
theorem decode4_encode (i : Instr) (rest : List Byte) (hw : i.wf = true) :
    decode4 ((encode i ++ rest).getD 0 0) ((encode i ++ rest).getD 1 0) ((encode i ++ rest).getD 2 0)
      ((encode i ++ rest).getD 3 0) = .ok i := by
  cases i
  all_goals simp only [encode, List.cons_append, List.nil_append, List.getD_cons_zero, List.getD_cons_succ]
  -- registers
  case ldRR r r' => cases r <;> cases r' <;> rfl
  case ldRN r _ | ldRIxd r _ | ldRIyd r _ => cases r <;> rfl
  case ldIxdR _ r | ldIydR _ r => cases r <;> rfl
  case ldRHl r | ldHlR r | addR r | adcR r | subR r | sbcR r | andR r | xorR r | orR r | cpR r | incR r | decR r |
      rlcR r | rrcR r | rlR r | rrR r | slaR r | sraR r | sllR r | srlR r | inRC r | outCR r => cases r <;> rfl
  -- index halves
  case ldIxHalves r r' => exact (decode4_index_half_load r r' _ _).1.trans (if_pos hw)
  case ldIyHalves r r' => exact (decode4_index_half_load r r' _ _).2.trans (if_pos hw)
  case ldIxhN h _ | ldIyhN h _ => cases h <;> rfl
  case addIxh h | addIyh h | adcIxh h | adcIyh h | subIxh h | subIyh h | sbcIxh h | sbcIyh h | andIxh h | andIyh h |
      xorIxh h | xorIyh h | orIxh h | orIyh h | cpIxh h | cpIyh h | incIxh h | incIyh h | decIxh h | decIyh h =>
    cases h <;> rfl
  -- register pairs
  case addHlSs p | adcHlSs p | sbcHlSs p | incSs p | decSs p | pushQq p | popQq p | addIxPp p | addIyPp p =>
    cases p <;> rfl
  case ldDdNn p _ | ldDdMem p _ => cases p <;> exact read_operand_word _ rfl
  case ldMemDd _ p => cases p <;> exact read_operand_word (Instr.ldMemDd · _) rfl
  -- bit numbers and restart indices
  case bitBR b r | setBR b r | resBR b r => cases b using field_cases <;> cases r <;> rfl
  case bitBHl b | setBHl b | resBHl b | rstP b => cases b using field_cases <;> rfl
  case bitBIxd _ b | bitBIyd _ b | setBIxd _ b | setBIyd _ b | resBIxd _ b | resBIyd _ b =>
    cases b using field_cases <;> rfl
  -- conditions
  case jpCcNn cc _ | callCcNn cc _ => cases cc <;> exact read_operand_word _ rfl
  case jrCcE cc _ => cases cc <;> rfl
  case retCc cc => cases cc <;> rfl
  -- no field, and an operand word
  case ldANn | ldNnA | ldIxNn | ldIyNn | ldHlMem | ldIxMem | ldIyMem | ldMemHl | ldMemIx | ldMemIy | jpNn | callNn =>
    exact read_operand_word _ rfl
  -- no field
  all_goals rfl

/-- Settles O37: the first four bytes are read as the instruction, and the encoding is as long as the instruction. -/
theorem decodeInvertsEncode : Obligations.DecodeInvertsEncode := by
  intro i rest hw
  have hl : i.length ≤ (encode i ++ rest).length := by simp [encode_length]
  rw [decode_of_decode4 (decode4_encode i rest hw) hl, ← encode_length, List.drop_left]

/-- Settles O36: each of the words is the encoding of its instruction, so decoding it gives the instruction back (O37). -/
theorem encodedWordsDecode : Obligations.EncodedWordsDecode := by
  intro p hp
  have h : p.2.wf = true ∧ encode p.2 = p.1 := by
    revert p
    decide
  obtain ⟨hw, he⟩ := h
  simpa [he] using decodeInvertsEncode p.2 [] hw

end Sys2Proof

/-! SUPPORT. O38, O39: what each table of the decoder reads from an opcode byte, and for which opcode bytes it has a row
(30_encoding.md R302, R311, R315 to R318). -/

namespace Sys2Proof

open Sys2Proof.Machine (cat hi8 lo8 cat_hi8_lo8 hi8_cat lo8_cat unsupportedBytes undefinedED definedXY)

/-! ## The opcode byte and its fields (R303 to R305) -/

/-- The opcode byte with the fields `x`, `y` and `z` (R303). -/
def opcode (x : Fin 4) (y z : Fin 8) : Byte := op (.ofFin x) (.ofFin y) (.ofFin z)

theorem exists_opcode (b : Byte) : ∃ x y z, b = opcode x y z := by
  refine ⟨opX b, opY b, opZ b, ?_⟩
  revert b
  decide

@[simp] theorem opX_opcode (x : Fin 4) (y z : Fin 8) : opX (opcode x y z) = x := by revert x y z; decide

@[simp] theorem opY_opcode (x : Fin 4) (y z : Fin 8) : opY (opcode x y z) = y := by revert x y z; decide

@[simp] theorem opZ_opcode (x : Fin 4) (y z : Fin 8) : opZ (opcode x y z) = z := by revert x y z; decide

/-- Two operand bytes are the two bytes of a word (R310). -/
theorem exists_word (l h : Byte) : ∃ nn, l = lo8 nn ∧ h = hi8 nn := ⟨cat h l, (lo8_cat h l).symm, (hi8_cat h l).symm⟩

/-- A register field is the code of a register, or 110, the memory operand (R304). -/
theorem reg_or_mem (y : Fin 8) : (∃ r : Reg8, y = r.code.toFin) ∨ y = 6 := by
  match y with
  | 0 => exact .inl ⟨.b, rfl⟩
  | 1 => exact .inl ⟨.c, rfl⟩
  | 2 => exact .inl ⟨.d, rfl⟩
  | 3 => exact .inl ⟨.e, rfl⟩
  | 4 => exact .inl ⟨.h, rfl⟩
  | 5 => exact .inl ⟨.l, rfl⟩
  | 6 => exact .inr rfl
  | 7 => exact .inl ⟨.a, rfl⟩

@[simp] theorem regOr_code {α : Type} (k : Reg8 → α) (m : α) (r : Reg8) : regOr k m r.code.toFin = k r := by
  cases r <;> rfl

@[simp] theorem regOr_mem {α : Type} (k : Reg8 → α) (m : α) : regOr k m 6 = m := rfl

theorem regOr_eq_some {k : Reg8 → Instr} {y : Fin 8} {i : Instr} (h : regOr (fun r => some (k r)) none y = some i) :
    ∃ r : Reg8, y = r.code.toFin ∧ i = k r := by
  obtain ⟨r, rfl⟩ | rfl := reg_or_mem y
  · rw [regOr_code] at h
    exact ⟨r, rfl, (Option.some.inj h).symm⟩
  · cases h

theorem halfOf_map_eq_some {k : Half → Instr} {y : Fin 8} {i : Instr} (h : (halfOf y).map k = some i) :
    ∃ r : Half, y = r.code.toFin ∧ i = k r := by
  unfold halfOf at h
  split at h
  · exact ⟨.hi, rfl, (Option.some.inj h).symm⟩
  · exact ⟨.lo, rfl, (Option.some.inj h).symm⟩
  · cases h

theorem regXOf_eq_some {y : Fin 8} {r : RegX} (h : regXOf y = some r) : y = r.code.toFin := by
  unfold regXOf at h
  split at h <;> cases h <;> rfl

/-! ## Bytes read as an instruction are its encoding (R302) -/

/-- `bs` begins with the encoding of the well-formed instruction `i`. -/
def Spells (i : Instr) (bs : List Byte) : Prop := i.wf = true ∧ encode i = bs.take i.length

/-- If `r` is an instruction, `bs` begins with its encoding. -/
def Reads (r : Except DecodeError Instr) (bs : List Byte) : Prop := ∀ i, r = .ok i → Spells i bs

theorem reads_ok {i : Instr} {bs : List Byte} (h : Spells i bs) : Reads (.ok i) bs := by
  rintro _ ⟨⟩
  exact h

theorem reads_error (e : DecodeError) (bs : List Byte) : Reads (.error e) bs := nofun

/-- The byte that selects the index register (R313). -/
def XY.prefixByte : XY → Byte
  | .ix => 0xDD
  | .iy => 0xFD

theorem pick_spells {xy : XY} {i j : Instr} {bs : List Byte} (hi : Spells i (0xDD :: bs)) (hj : Spells j (0xFD :: bs)) :
    Spells (pick xy i j) (xy.prefixByte :: bs) := by
  cases xy
  · exact hi
  · exact hj

theorem decodeCB_spells (b b2 b3 : Byte) : Spells (decodeCB b) [0xCB, b, b2, b3] := by
  obtain ⟨x, y, z, rfl⟩ := exists_opcode b
  obtain ⟨r, rfl⟩ | rfl := reg_or_mem z
  all_goals
    simp only [decodeCB, opX_opcode, opY_opcode, opZ_opcode, regOr_code, regOr_mem]
    split
    · split <;> exact ⟨rfl, rfl⟩
    all_goals exact ⟨rfl, rfl⟩

theorem decodeXYCB_reads (xy : XY) (d b : Byte) : Reads (decodeXYCB xy d b) [xy.prefixByte, 0xCB, d, b] := by
  obtain ⟨x, y, z, rfl⟩ := exists_opcode b
  simp only [decodeXYCB, opX_opcode, opY_opcode, opZ_opcode]
  split
  · refine reads_ok ?_
    split
    · split <;> exact pick_spells ⟨rfl, rfl⟩ ⟨rfl, rfl⟩
    all_goals exact pick_spells ⟨rfl, rfl⟩ ⟨rfl, rfl⟩
  · exact reads_error _ _

theorem decodeED_reads (b n1 n2 : Byte) : Reads (decodeED b n1 n2) [0xED, b, n1, n2] := by
  obtain ⟨x, y, z, rfl⟩ := exists_opcode b
  obtain ⟨nn, rfl, rfl⟩ := exists_word n1 n2
  simp only [decodeED, opX_opcode, opY_opcode, opZ_opcode, cat_hi8_lo8]
  split
  · exact reads_error _ _
  · split
    case h_1 | h_2 =>
      obtain ⟨r, rfl⟩ | rfl := reg_or_mem y
      · rw [regOr_code]
        exact reads_ok ⟨rfl, rfl⟩
      · exact reads_error _ _
    case h_3 | h_4 => cases y using field_cases <;> exact reads_ok ⟨rfl, rfl⟩
    case h_5 =>
      split
      · exact reads_ok ⟨rfl, rfl⟩
      · exact reads_error _ _
    case h_6 =>
      split
      case h_3 => exact reads_error _ _
      all_goals exact reads_ok ⟨rfl, rfl⟩
    case h_7 =>
      split
      case h_4 => exact reads_error _ _
      all_goals exact reads_ok ⟨rfl, rfl⟩
    case h_8 =>
      split
      case h_7 => exact reads_error _ _
      all_goals exact reads_ok ⟨rfl, rfl⟩
  · split
    case h_17 => exact reads_error _ _
    all_goals exact reads_ok ⟨rfl, rfl⟩
  · exact reads_error _ _

theorem aluXY_spells {xy : XY} {d n2 : Byte} {y z : Fin 8} {i : Instr} (h : aluXY xy d y z = some i) :
    Spells i [xy.prefixByte, opcode 2 y z, d, n2] := by
  unfold aluXY at h
  split at h
  · cases h
    split <;> exact pick_spells ⟨rfl, rfl⟩ ⟨rfl, rfl⟩
  · obtain ⟨r, rfl, rfl⟩ := halfOf_map_eq_some h
    split <;> exact pick_spells ⟨rfl, rfl⟩ ⟨rfl, rfl⟩

theorem xyRow_spells {xy : XY} {b n1 n2 : Byte} {i : Instr} (h : xyRow xy b n1 n2 = some i) :
    Spells i [xy.prefixByte, b, n1, n2] := by
  obtain ⟨x, y, z, rfl⟩ := exists_opcode b
  obtain ⟨nn, rfl, rfl⟩ := exists_word n1 n2
  simp only [xyRow, opX_opcode, opY_opcode, opZ_opcode, cat_hi8_lo8] at h
  split at h
  · split at h
    case h_1 => cases y using field_cases <;> cases h <;> exact pick_spells ⟨rfl, rfl⟩ ⟨rfl, rfl⟩
    case h_2 | h_3 => split at h <;> cases h <;> exact pick_spells ⟨rfl, rfl⟩ ⟨rfl, rfl⟩
    case h_4 | h_5 | h_6 =>
      split at h
      · cases h
        exact pick_spells ⟨rfl, rfl⟩ ⟨rfl, rfl⟩
      · obtain ⟨r, rfl, rfl⟩ := halfOf_map_eq_some h
        exact pick_spells ⟨rfl, rfl⟩ ⟨rfl, rfl⟩
    case h_7 => cases h
  · split at h
    case h_1 | h_2 =>
      obtain ⟨r, rfl, rfl⟩ := regOr_eq_some h
      exact pick_spells ⟨rfl, rfl⟩ ⟨rfl, rfl⟩
    case h_3 =>
      split at h
      · next r r' hr hr' =>
        obtain rfl := regXOf_eq_some hr
        obtain rfl := regXOf_eq_some hr'
        split at h
        · cases h
          exact pick_spells ⟨‹_›, rfl⟩ ⟨‹_›, rfl⟩
        · cases h
      · cases h
  · exact aluXY_spells h
  · split at h <;> cases h <;> exact pick_spells ⟨rfl, rfl⟩ ⟨rfl, rfl⟩

theorem decodeXY_reads (xy : XY) (b1 b2 b3 : Byte) : Reads (decodeXY xy b1 b2 b3) [xy.prefixByte, b1, b2, b3] := by
  unfold decodeXY
  split
  · subst b1
    exact decodeXYCB_reads xy b2 b3
  · split
    · exact reads_ok (xyRow_spells ‹_›)
    · exact reads_error _ _

theorem aluU_spells (y z : Fin 8) (b1 b2 b3 : Byte) : Spells (aluU y z) [opcode 2 y z, b1, b2, b3] := by
  unfold aluU
  obtain ⟨r, rfl⟩ | rfl := reg_or_mem z
  all_goals
    simp only [regOr_code, regOr_mem]
    split <;> exact ⟨rfl, rfl⟩

/-- Every first byte but DD, ED and FD begins an instruction (R301, R314). -/
theorem decode4_unprefixed {b0 : Byte} (hd : b0 ≠ 0xDD#8) (he : b0 ≠ 0xED#8) (hf : b0 ≠ 0xFD#8) (b1 b2 b3 : Byte) :
    ∃ i, decode4 b0 b1 b2 b3 = .ok i ∧ Spells i [b0, b1, b2, b3] := by
  obtain ⟨x, y, z, rfl⟩ := exists_opcode b0
  obtain ⟨nn, rfl, rfl⟩ := exists_word b1 b2
  simp only [decode4, opX_opcode, opY_opcode, opZ_opcode, cat_hi8_lo8]
  split
  · split
    case h_5 | h_6 | h_7 =>
      obtain ⟨r, rfl⟩ | rfl := reg_or_mem y
      all_goals
        simp only [regOr_code, regOr_mem]
        exact ⟨_, rfl, rfl, rfl⟩
    all_goals cases y using field_cases <;> exact ⟨_, rfl, rfl, rfl⟩
  · obtain ⟨r, rfl⟩ | rfl := reg_or_mem y <;> obtain ⟨r', rfl⟩ | rfl := reg_or_mem z
    all_goals
      simp only [regOr_code, regOr_mem]
      exact ⟨_, rfl, rfl, rfl⟩
  · exact ⟨_, rfl, aluU_spells y z _ _ _⟩
  · split
    case h_4 =>
      split
      case h_2 => exact ⟨_, rfl, decodeCB_spells _ _ _⟩
      all_goals exact ⟨_, rfl, rfl, rfl⟩
    case h_6 =>
      match y, hd, he, hf with
      | 3, hd, _, _ => exact absurd rfl hd
      | 5, _, he, _ => exact absurd rfl he
      | 7, _, _, hf => exact absurd rfl hf
      | 0, _, _, _ | 1, _, _, _ | 2, _, _, _ | 4, _, _, _ | 6, _, _, _ => exact ⟨_, rfl, rfl, rfl⟩
    case h_8 => exact ⟨_, rfl, rfl, rfl⟩
    all_goals cases y using field_cases <;> exact ⟨_, rfl, rfl, rfl⟩

theorem decode4_reads (b0 b1 b2 b3 : Byte) : Reads (decode4 b0 b1 b2 b3) [b0, b1, b2, b3] := by
  by_cases hd : b0 = 0xDD#8
  · subst hd
    exact decodeXY_reads .ix b1 b2 b3
  by_cases he : b0 = 0xED#8
  · subst he
    exact decodeED_reads b1 b2 b3
  by_cases hf : b0 = 0xFD#8
  · subst hf
    exact decodeXY_reads .iy b1 b2 b3
  obtain ⟨i, e, hi⟩ := decode4_unprefixed hd he hf b1 b2 b3
  rw [e]
  exact reads_ok hi

/-- Settles O38: table by table, the bytes a row is read from are the encoding of its instruction. -/
theorem encodeInvertsDecode : Obligations.EncodeInvertsDecode := fun b0 b1 b2 b3 i h => decode4_reads b0 b1 b2 b3 i h

/-! ## The opcode bytes with no row (R311)

Whether there is a row does not depend on the operand bytes, so each table is compared with R311's list at operand bytes 0. -/

theorem isOk_decodeED_operands (b n1 n2 : Byte) : (decodeED b n1 n2).isOk = (decodeED b 0 0).isOk := by
  unfold decodeED
  split
  · rfl
  · split <;> rfl
  · rfl
  · rfl

theorem isOk_decodeED (b n1 n2 : Byte) : (decodeED b n1 n2).isOk = !undefinedED b := by
  rw [isOk_decodeED_operands]
  revert b
  decide

theorem isSome_xyRow_operands (xy : XY) (b n1 n2 : Byte) : (xyRow xy b n1 n2).isSome = (xyRow .ix b 0 0).isSome := by
  obtain ⟨x, y, z, rfl⟩ := exists_opcode b
  simp only [xyRow, aluXY, opX_opcode, opY_opcode, opZ_opcode]
  split
  · split
    case h_1 =>
      split
      · rfl
      · split <;> rfl
    case h_2 | h_3 => split <;> rfl
    case h_4 | h_5 | h_6 =>
      split
      · rfl
      · simp only [Option.isSome_map]
    case h_7 => rfl
  · split
    case h_1 => obtain ⟨r, rfl⟩ | rfl := reg_or_mem z <;> simp
    case h_2 => obtain ⟨r, rfl⟩ | rfl := reg_or_mem y <;> simp
    case h_3 =>
      split
      · split <;> rfl
      · rfl
  · split
    · rfl
    · simp only [Option.isSome_map]
  · split <;> rfl

theorem isSome_xyRow {b : Byte} (hb : b ≠ 0xCB#8) (xy : XY) (n1 n2 : Byte) : (xyRow xy b n1 n2).isSome = definedXY b := by
  rw [isSome_xyRow_operands]
  revert b
  decide

theorem isOk_decodeXYCB (xy : XY) (d b : Byte) : (decodeXYCB xy d b).isOk = !(b.toNat % 8 != 6) := by
  have hz : ∀ b : Byte, (opZ b == 6) = !(b.toNat % 8 != 6) := by decide
  rw [← hz]
  unfold decodeXYCB
  split
  · next h => rw [h]; rfl
  · next h => exact (beq_eq_false_iff_ne.mpr h).symm

theorem isOk_decodeXY (xy : XY) (b1 b2 b3 : Byte) :
    (decodeXY xy b1 b2 b3).isOk = !(if b1 = 0xCB#8 then b3.toNat % 8 != 6 else !definedXY b1) := by
  unfold decodeXY
  by_cases hb : b1 = 0xCB#8
  · rw [if_pos hb, if_pos hb]
    exact isOk_decodeXYCB xy b2 b3
  · rw [if_neg hb, if_neg hb, Bool.not_not, ← isSome_xyRow hb xy b2 b3]
    cases xyRow xy b1 b2 b3 <;> rfl

/-- The decoder reads an instruction from exactly the bytes R311 does not list. -/
theorem isOk_decode4 (b0 b1 b2 b3 : Byte) : (decode4 b0 b1 b2 b3).isOk = !unsupportedBytes b0 b1 b3 := by
  by_cases hd : b0 = 0xDD#8
  · subst hd
    exact isOk_decodeXY .ix b1 b2 b3
  by_cases he : b0 = 0xED#8
  · subst he
    rw [unsupportedBytes]
    exact (isOk_decodeED b1 b2 b3).trans (by simp)
  by_cases hf : b0 = 0xFD#8
  · subst hf
    exact isOk_decodeXY .iy b1 b2 b3
  obtain ⟨i, e, -⟩ := decode4_unprefixed hd he hf b1 b2 b3
  have hu : unsupportedBytes b0 b1 b3 = false := by simp [unsupportedBytes, hd, he, hf]
  rw [e, hu]
  rfl

theorem exists_error_iff (r : Except DecodeError Instr) : (∃ e, r = .error e) ↔ r.isOk = false := by
  cases r <;> simp [Except.isOk, Except.toBool]

theorem exists_error_iff_unsupported (b0 b1 b2 b3 : Byte) :
    (∃ e, decode4 b0 b1 b2 b3 = .error e) ↔ unsupportedBytes b0 b1 b3 = true := by
  rw [exists_error_iff, isOk_decode4, Bool.not_eq_false']

end Sys2Proof

/-! SUPPORT. O35, O39: the instruction step (49_cpm_traps.md R1311). -/

namespace Sys2Proof.Machine

/-- At an untrapped `PC` a machine that is running, not halted and with no interrupt to accept does one instruction step
(R1311). -/
theorem step_untrapped {s : State} (h : AtTrap s.cpu.pc s) (ht : trapKind s.cfg.biosBase s.cpu.pc = .none) :
    step s = instructionStep s := by
  have he : nextEvent s = .instruction := by rw [nextEvent_plain h.noNmi h.noInt h.awake, ht]
  rw [step_running h.running, loopStep, he]

/-- Settles O35: the step is an instruction step, and the fetch decodes the four bytes at `PC`. -/
theorem stepRunsTheDecodedInstruction : Obligations.StepRunsTheDecodedInstruction := by
  intro s i h ht hd
  rw [step_untrapped h ht, instructionStep, fetch, hd]

theorem pcBytes_eq (s : State) :
    s.pcBytes = [s.peek s.cpu.pc, s.peek (s.cpu.pc + 1), s.peek (s.cpu.pc + 2), s.peek (s.cpu.pc + 3)] := by
  have h2 : s.cpu.pc + 1 + 1 = s.cpu.pc + 2 := BitVec.add_assoc ..
  have h3 : s.cpu.pc + 2 + 1 = s.cpu.pc + 3 := BitVec.add_assoc ..
  simp only [State.pcBytes, Memory.readBytes, h2, h3, State.peek]

/-- An instruction step at bytes that are no instruction faults, and changes nothing but `STATUS` (R311, R1501). -/
theorem instructionStep_error {s : State} {e : DecodeError} (h : fetch s = .error e) :
    instructionStep s = .next (s.setStatus (.faulted (.unsupportedOpcode s.cpu.pc s.pcBytes))) := by
  rw [instructionStep, h]
  rfl

/-- Settles O39: the decoder refuses exactly the listed bytes, and a step at bytes it refuses only sets `STATUS`. -/
theorem unsupportedEncodingsFault : Obligations.UnsupportedEncodingsFault := by
  refine ⟨exists_error_iff_unsupported, fun s h ht hu => ?_⟩
  obtain ⟨e, he⟩ := (exists_error_iff_unsupported _ _ (s.peek (s.cpu.pc + 2)) _).mpr hu
  rw [← pcBytes_eq, step_untrapped h ht, instructionStep_error he]
  exact ⟨_, rfl, rfl, rfl, rfl, rfl, rfl, rfl⟩

end Sys2Proof.Machine

/-! SUPPORT. O1 to O8: the frame of an effect, said once for each operation of the state, and what a read gives after a write
of a pair, an index half, the stack (10_state.md R101 to R105, 00_scope.md R15). -/

namespace Sys2Proof.Machine

/-! ## Places -/

/-- The registers every step writes are no places: a write of `PC`, `R` and `EI_DELAY` changes none (R101 to R115). -/
theorem loc_withStepRegisters (s : State) (pc : Word) (r : Byte) (delay : Bool) (l : Loc) :
    (s.withCpu fun c => { c with pc := pc, r := r, eiDelay := delay }).loc l = s.loc l := by
  cases l with
  | reg q => cases q <;> rfl
  | _ => rfl

@[simp] theorem loc_opening (s : State) (fm : Format) (l : Loc) : (s.opening fm).loc l = s.loc l :=
  loc_withStepRegisters s s.cpu.pc _ _ l

@[simp] theorem loc_closing (s : State) (fm : Format) (l : Loc) : (s.closing fm).loc l = s.loc l :=
  loc_withStepRegisters s _ s.cpu.r s.cpu.eiDelay l

theorem loc_setReg_ne (s : State) {r : Reg8} {l : Loc} (v : Byte) (h : l ≠ .reg r) : (s.setReg r v).loc l = s.loc l := by
  cases l with
  | reg q => exact congrArg BitVec.toNat (State.reg_setReg_ne s v fun e => h (congrArg Loc.reg e))
  | _ => simp [State.loc]

theorem loc_setXy_ne (s : State) {x : XY} {l : Loc} (v : Word) (h : l ≠ xyLoc x) : (s.setXy x v).loc l = s.loc l := by
  cases l with
  | reg q => cases q <;> simp [State.loc, State.reg]
  | ix => exact congrArg BitVec.toNat (State.xy_setXy_ne s (y := .ix) v fun e => h (congrArg xyLoc e))
  | iy => exact congrArg BitVec.toNat (State.xy_setXy_ne s (y := .iy) v fun e => h (congrArg xyLoc e))
  | _ => simp [State.loc]

theorem loc_setSp_ne (s : State) {l : Loc} (v : Word) (h : l ≠ .sp) : (s.setSp v).loc l = s.loc l := by
  cases l with
  | reg q => cases q <;> rfl
  | sp => exact absurd rfl h
  | _ => rfl

theorem loc_setF_ne (s : State) {l : Loc} (v : Byte) (h : l ≠ .f) : (s.setF v).loc l = s.loc l := by
  cases l with
  | reg q => cases q <;> rfl
  | f => exact absurd rfl h
  | _ => rfl

theorem loc_setI_ne (s : State) {l : Loc} (v : Byte) (h : l ≠ .i) :
    (s.withCpu fun c => { c with i := v }).loc l = s.loc l := by
  cases l with
  | reg q => cases q <;> rfl
  | i => exact absurd rfl h
  | _ => rfl

/-! ## Bytes below the stack pointer -/

theorem pred_pred (a : Word) : a - 1 - 1 = a - 2 := by
  rw [BitVec.sub_sub]
  rfl

theorem peek_push16_low {s : State} (h : s.mem.wf = true) (v : Word) : (s.push16 v).peek (s.cpu.sp - 2) = lo8 v := by
  rw [← pred_pred]
  exact Memory.read_write (Memory.write_wf h _ _) _ _

/-- The low byte is pushed below the high byte, which stays (R15). -/
theorem peek_push16_high {s : State} (h : s.mem.wf = true) (v : Word) : (s.push16 v).peek (s.cpu.sp - 1) = hi8 v := by
  have hne : s.cpu.sp - 1 ≠ s.cpu.sp - 1 - 1 := fun e => Memory.succ_ne (s.cpu.sp - 1 - 1) (by rw [pred_pred_succ, ← e])
  exact (Memory.read_write_ne _ _ hne).trans (Memory.read_write h _ _)

/-! ## The frame of an effect -/

/-- From `s` to `t` the effect of an instruction has taken place: only the places `changed` and the bytes at `stored` may
differ, and `PC`, `R`, `EI_DELAY` and the host, which a frame leaves open, are kept too. -/
structure Touches (changed : List Loc) (stored : List Word) (s t : State) : Prop extends Frame changed stored s t where
  host : t.host = s.host
  pc : t.cpu.pc = s.cpu.pc
  refresh : t.cpu.r = s.cpu.r
  eiDelay : t.cpu.eiDelay = s.cpu.eiDelay

namespace Touches

variable {ch : List Loc} {st : List Word} {s t : State}

theorem self (s : State) : Touches ch st s s :=
  ⟨⟨fun _ _ => rfl, fun _ _ => rfl, rfl, rfl, rfl⟩, rfl, rfl, rfl, rfl⟩

/-- An effect between the opening and the closing of an instruction is the frame and the completion of the whole (R309). -/
theorem finishes {fm : Format} (h : Touches ch st (s.opening fm) t) :
    Frame ch st s (t.closing fm) ∧ Finishes fm s (t.closing fm) := by
  refine ⟨{ h with regs := fun l hl => ?_ }, h.host, ?_, h.refresh, h.eiDelay⟩
  · rw [loc_closing, h.regs l hl, loc_opening]
  · exact congrArg (· + BitVec.ofNat 16 fm.length) h.pc

/-- An update of the register file that leaves the places outside `changed` and the registers every step writes. -/
theorem withCpu (h : Touches ch st s t) {f : Cpu → Cpu} (hl : ∀ l, l ∉ ch → (t.withCpu f).loc l = t.loc l)
    (hpc : (f t.cpu).pc = t.cpu.pc) (hr : (f t.cpu).r = t.cpu.r) (he : (f t.cpu).eiDelay = t.cpu.eiDelay) :
    Touches ch st s (t.withCpu f) where
  regs l hn := (hl l hn).trans (h.regs l hn)
  bytes := h.bytes
  ambient := h.ambient
  status := h.status
  params := h.params
  host := h.host
  pc := hpc.trans h.pc
  refresh := hr.trans h.refresh
  eiDelay := he.trans h.eiDelay

theorem setReg (h : Touches ch st s t) (r : Reg8) (v : Byte) (hr : .reg r ∈ ch := by simp) :
    Touches ch st s (t.setReg r v) := by
  have hl : ∀ l, l ∉ ch → (t.setReg r v).loc l = t.loc l :=
    fun _ hn => loc_setReg_ne t v (ne_of_mem_of_not_mem hr hn).symm
  cases r <;> exact h.withCpu hl rfl rfl rfl

theorem setA (h : Touches ch st s t) (v : Byte) (ha : .reg .a ∈ ch := by simp) : Touches ch st s (t.setA v) :=
  h.setReg .a v ha

theorem setXy (h : Touches ch st s t) (x : XY) (v : Word) (hx : xyLoc x ∈ ch := by simp) :
    Touches ch st s (t.setXy x v) := by
  have hl : ∀ l, l ∉ ch → (t.setXy x v).loc l = t.loc l :=
    fun _ hn => loc_setXy_ne t v (ne_of_mem_of_not_mem hx hn).symm
  cases x <;> exact h.withCpu hl rfl rfl rfl

theorem setSp (h : Touches ch st s t) (v : Word) (hsp : .sp ∈ ch := by simp) : Touches ch st s (t.setSp v) :=
  h.withCpu (fun _ hn => loc_setSp_ne t v (ne_of_mem_of_not_mem hsp hn).symm) rfl rfl rfl

theorem setF (h : Touches ch st s t) (v : Byte) (hf : .f ∈ ch := by simp) : Touches ch st s (t.setF v) :=
  h.withCpu (fun _ hn => loc_setF_ne t v (ne_of_mem_of_not_mem hf hn).symm) rfl rfl rfl

theorem setFlags (h : Touches ch st s t) (fl : Flags) (hf : .f ∈ ch := by simp) : Touches ch st s (t.setFlags fl) :=
  h.setF fl.toByte hf

theorem setI (h : Touches ch st s t) (v : Byte) (hi : .i ∈ ch := by simp) :
    Touches ch st s (t.withCpu fun c => { c with i := v }) :=
  h.withCpu (fun _ hn => loc_setI_ne t v (ne_of_mem_of_not_mem hi hn).symm) rfl rfl rfl

/-- A pair is written as its two registers (R104). -/
theorem setPair (h : Touches ch st s t) (p : Pair) (v : Word) (hp : pairLocs p ⊆ ch) :
    Touches ch st s (t.setPair p v) := by
  cases p
  case bc => exact (h.setReg .b (hi8 v) (hp (by simp [pairLocs]))).setReg .c (lo8 v) (hp (by simp [pairLocs]))
  case de => exact (h.setReg .d (hi8 v) (hp (by simp [pairLocs]))).setReg .e (lo8 v) (hp (by simp [pairLocs]))
  case hl => exact (h.setReg .h (hi8 v) (hp (by simp [pairLocs]))).setReg .l (lo8 v) (hp (by simp [pairLocs]))
  case sp => exact h.setSp v (hp (by simp [pairLocs]))

theorem setPairAf (h : Touches ch st s t) (p : PairAf) (v : Word) (hp : pairAfLocs p ⊆ ch) :
    Touches ch st s (t.setPairAf p v) := by
  cases p
  case bc => exact h.setPair .bc v hp
  case de => exact h.setPair .de v hp
  case hl => exact h.setPair .hl v hp
  case af => exact (h.setReg .a (hi8 v) (hp (by simp [pairAfLocs]))).setF (lo8 v) (hp (by simp [pairAfLocs]))

theorem setHalf (h : Touches ch st s t) (x : XY) (k : Half) (v : Byte) (hx : xyLoc x ∈ ch := by simp) :
    Touches ch st s (t.setHalf x k v) := by
  cases k <;> exact h.setXy x _ hx

theorem setRegX (h : Touches ch st s t) (x : XY) (r : RegX) (v : Byte) (hr : regXLoc x r ∈ ch := by simp) :
    Touches ch st s (t.setRegX x r v) := by
  cases r
  case hi => exact h.setHalf x .hi v hr
  case lo => exact h.setHalf x .lo v hr
  case b => exact h.setReg .b v hr
  case c => exact h.setReg .c v hr
  case d => exact h.setReg .d v hr
  case e => exact h.setReg .e v hr
  case a => exact h.setReg .a v hr

theorem poke (h : Touches ch st s t) (a : Word) (v : Byte) (ha : a ∈ st := by simp) : Touches ch st s (t.poke a v) :=
  { h with
    bytes := fun b hb => (Memory.read_write_ne t.mem v (ne_of_mem_of_not_mem ha hb).symm).trans (h.bytes b hb) }

theorem poke16 (h : Touches ch st s t) (a v : Word) (ha : twoBytes a ⊆ st) : Touches ch st s (t.poke16 a v) :=
  (h.poke a (lo8 v) (ha (by simp [twoBytes]))).poke (a + 1) (hi8 v) (ha (by simp [twoBytes]))

/-- A push moves `SP` and writes the two bytes below it (R15). -/
theorem push16 (h : Touches ch st s t) (v : Word) (hsp : .sp ∈ ch := by simp) (h1 : t.cpu.sp - 1 ∈ st := by simp)
    (h2 : t.cpu.sp - 2 ∈ st := by simp) : Touches ch st s (t.push16 v) := by
  rw [← pred_pred] at h2
  exact (((h.setSp _ hsp).poke _ (hi8 v) h1).setSp _ hsp).poke _ (lo8 v) h2

end Touches

/-! ## A write read back -/

namespace State

@[simp] theorem pair_setPair (s : State) (p : Pair) (v : Word) : (s.setPair p v).pair p = v := by
  cases p
  case sp => rfl
  all_goals exact cat_hi8_lo8 v

@[simp] theorem pairAf_setPairAf (s : State) (p : PairAf) (v : Word) : (s.setPairAf p v).pairAf p = v := by
  cases p <;> exact cat_hi8_lo8 v

@[simp] theorem half_setHalf (s : State) (x : XY) (k : Half) (v : Byte) : (s.setHalf x k v).half x k = v := by
  cases k <;> simp [half, setHalf]

/-- A write of one half of an index register leaves the other (R104). -/
theorem half_setHalf_ne (s : State) (x : XY) {k j : Half} (v : Byte) (h : j ≠ k) :
    (s.setHalf x k v).half x j = s.half x j := by
  cases k <;> cases j
  case hi.hi | lo.lo => exact absurd rfl h
  all_goals simp [half, setHalf]

@[simp] theorem regX_setRegX (s : State) (x : XY) (r : RegX) (v : Byte) : (s.setRegX x r v).regX x r = v := by
  cases r
  case hi => exact half_setHalf s x .hi v
  case lo => exact half_setHalf s x .lo v
  all_goals rfl

/-- A write of a register or index half leaves every other one (R419). -/
theorem regX_setRegX_ne (s : State) (x : XY) {r q : RegX} (v : Byte) (h : q ≠ r) :
    (s.setRegX x r v).regX x q = s.regX x q := by
  cases r <;> cases q
  case hi.hi | lo.lo | b.b | c.c | d.d | e.e | a.a => exact absurd rfl h
  case hi.lo => exact half_setHalf_ne s x (k := .hi) (j := .lo) v nofun
  case lo.hi => exact half_setHalf_ne s x (k := .lo) (j := .hi) v nofun
  all_goals cases x <;> rfl

@[simp] theorem pair_closing (s : State) (fm : Format) (p : Pair) : (s.closing fm).pair p = s.pair p := by cases p <;> rfl
@[simp] theorem pairAf_closing (s : State) (fm : Format) (p : PairAf) : (s.closing fm).pairAf p = s.pairAf p := by
  cases p <;> rfl
@[simp] theorem xy_closing (s : State) (fm : Format) (x : XY) : (s.closing fm).xy x = s.xy x := by cases x <;> rfl
@[simp] theorem half_closing (s : State) (fm : Format) (x : XY) (k : Half) : (s.closing fm).half x k = s.half x k := by
  cases k <;> simp [half]
@[simp] theorem regX_closing (s : State) (fm : Format) (x : XY) (r : RegX) : (s.closing fm).regX x r = s.regX x r := by
  cases r <;> simp [regX]
@[simp] theorem regX_opening (s : State) (fm : Format) (x : XY) (r : RegX) : (s.opening fm).regX x r = s.regX x r := by
  cases r <;> simp [regX]

end State

/-! ## Flags from a byte (R16) -/

theorem byte_getLsbD_seven (v : Byte) : v.getLsbD 7 = decide (128 ≤ v.toNat) := BitVec.msb_eq_decide v

theorem byte_beq_zero (v : Byte) : (v == 0) = decide (v.toNat = 0) := by
  rw [Bool.eq_iff_iff, beq_iff_eq, decide_eq_true_eq, ← BitVec.toNat_inj]
  rfl

/-- S, Z, Y and X computed from bits 7, 5 and 3 and a test for zero are those of the byte. -/
theorem szyx_of_bits {v : Byte} {f : Flags} (hs : f.s = v.getLsbD 7) (hz : f.z = (v == 0)) (hy : f.y = v.getLsbD 5)
    (hx : f.x = v.getLsbD 3) : SZYX v f :=
  ⟨hs.trans (byte_getLsbD_seven v), hz.trans (byte_beq_zero v), hy, hx⟩

/-! ## The loads (40_load.md)

Each form is one write of one operation of the state: its meaning read off as that write gives the value, and the rule of the
operation gives the frame. -/

/-- Settles O1: each of the loads is one write of its register. -/
theorem byteLoadsReachTheirRegister : Obligations.ByteLoadsReachTheirRegister := by
  rintro s r r' n d nn ⟨i, fm, q, v⟩ hp
  have hx : exec i s = .next (((s.opening fm).setReg q v).closing fm) := by
    simp only [List.mem_cons, List.not_mem_nil, or_false] at hp
    rcases hp with e | e | e | e | e | e | e | e <;> cases e <;> rfl
  exact ⟨_, hx, by simp, ((Touches.self _).setReg _ _).finishes⟩

/-- Settles O2: each of the stores is one write of a byte of memory. -/
theorem byteStoresWriteOneByte : Obligations.ByteStoresWriteOneByte := by
  rintro s r n d nn hw ⟨i, fm, a, v⟩ hp
  have hx : exec i s = .next (((s.opening fm).poke a v).closing fm) := by
    simp only [List.mem_cons, List.not_mem_nil, or_false] at hp
    rcases hp with e | e | e | e | e | e | e | e | e <;> cases e <;> rfl
  exact ⟨_, hx, Memory.read_write hw _ _, ((Touches.self _).poke _ _).finishes⟩

theorem flags_loadInterruptReg (v : Byte) (s : State) :
    (loadInterruptReg v s).flags = interruptRegFlags s.flags v s.cpu.iff2 := State.flags_setFlags _ _

/-- Settles O3: LD A,I and LD A,R load `A` and the flags from one byte, which for LD A,R is `R` after its advance; LD R,A
overwrites the advance. -/
theorem interruptRegisterTransfers : Obligations.InterruptRegisterTransfers := by
  intro s
  refine ⟨?reads, ?writeI, ?writeR⟩
  case reads =>
    rintro ⟨i, v⟩ hp
    have hx : exec i s = .next ((loadInterruptReg v (s.opening .ed2)).closing .ed2) := by
      simp only [List.mem_cons, List.not_mem_nil, or_false] at hp
      rcases hp with e | e <;> cases e <;> rfl
    have hf := flags_loadInterruptReg v (s.opening .ed2)
    refine ⟨_, hx, rfl, ?_⟩
    rw [State.flags_closing, hf]
    exact ⟨szyx_of_bits rfl rfl rfl rfl, rfl, rfl, rfl, rfl, (((Touches.self _).setA _).setFlags _).finishes⟩
  case writeI =>
    have hx : exec .ldIA s = .next (((s.opening .ed2).withCpu fun c => { c with i := s.cpu.a }).closing .ed2) := rfl
    exact ⟨_, hx, rfl, ((Touches.self _).setI _).finishes⟩
  case writeR =>
    have hx : exec .ldRefreshA s =
      .next (s.withCpu fun c => { c with pc := s.after .ed2, r := s.cpu.a, eiDelay := false }) := rfl
    exact ⟨_, hx, rfl, rfl, rfl, rfl, fun l _ => loc_withStepRegisters s _ _ _ l, fun _ _ => rfl, rfl, rfl, rfl⟩

/-- Settles O4: each of the loads is one write of a register or half, which leaves the other half of its word. -/
theorem indexHalfLoads : Obligations.IndexHalfLoads := by
  intro s r r' h n
  refine ⟨?halves, ?immediate⟩
  case halves =>
    rintro ⟨i, x⟩ hp
    have hx : exec i s = .next (((s.opening .xy2).setRegX x r (s.regX x r')).closing .xy2) := by
      simp only [List.mem_cons, List.not_mem_nil, or_false] at hp
      rcases hp with e | e <;> cases e <;> rfl
    refine ⟨_, hx, by simp, fun q hq => ?_, ((Touches.self _).setRegX _ _ _).finishes⟩
    rw [State.regX_closing, State.regX_setRegX_ne _ _ _ hq, State.regX_opening]
  case immediate =>
    rintro ⟨i, x⟩ hp
    have hx : exec i s = .next (((s.opening .xy3n).setHalf x h n).closing .xy3n) := by
      simp only [List.mem_cons, List.not_mem_nil, or_false] at hp
      rcases hp with e | e <;> cases e <;> rfl
    refine ⟨_, hx, by simp, fun k hk => ?_, ((Touches.self _).setHalf _ _ _).finishes⟩
    rw [State.half_closing, State.half_setHalf_ne _ _ _ hk, State.half_opening]

/-- Settles O5: each of the loads is one write of a pair or an index register. -/
theorem wordLoadsReachTheirPair : Obligations.WordLoadsReachTheirPair := by
  intro s p nn
  refine ⟨?pairs, ?index⟩
  case pairs =>
    rintro ⟨i, fm, q, v⟩ hp
    have hx : exec i s = .next (((s.opening fm).setPair q v).closing fm) := by
      simp only [List.mem_cons, List.not_mem_nil, or_false] at hp
      rcases hp with e | e | e | e | e | e <;> cases e <;> rfl
    exact ⟨_, hx, by simp, ((Touches.self _).setPair _ _ (List.Subset.refl _)).finishes⟩
  case index =>
    rintro ⟨i, x, v⟩ hp
    have hx : exec i s = .next (((s.opening .xy4nn).setXy x v).closing .xy4nn) := by
      simp only [List.mem_cons, List.not_mem_nil, or_false] at hp
      rcases hp with e | e | e | e <;> cases e <;> rfl
    exact ⟨_, hx, by simp, ((Touches.self _).setXy _ _).finishes⟩

/-- Settles O6: each of the stores is one write of a word of memory, which is its two bytes (O40). -/
theorem wordStoresWriteTwoBytes : Obligations.WordStoresWriteTwoBytes := by
  rintro s p nn hw ⟨i, fm, v⟩ hp
  have hx : exec i s = .next (((s.opening fm).poke16 nn v).closing fm) := by
    simp only [List.mem_cons, List.not_mem_nil, or_false] at hp
    rcases hp with e | e | e | e <;> cases e <;> rfl
  refine ⟨_, hx, ?low, ?high, ((Touches.self _).poke16 _ _ (List.Subset.refl _)).finishes⟩
  case low => exact (congrArg BitVec.toNat (Memory.read_write16_low hw nn _)).trans (lo8_toNat _)
  case high => exact (congrArg BitVec.toNat (Memory.read_write16_high hw nn _)).trans (hi8_toNat _)

/-- Settles O7: every form is one push of its word. -/
theorem pushWritesTheStack : Obligations.PushWritesTheStack := by
  rintro s p hw ⟨i, fm, v⟩ hp
  have hx : exec i s = .next (((s.opening fm).push16 v).closing fm) := by
    simp only [List.mem_cons, List.not_mem_nil, or_false] at hp
    rcases hp with e | e | e <;> cases e <;> rfl
  refine ⟨_, hx, pred_pred _, ?high, ?low, ((Touches.self _).push16 _).finishes⟩
  case high => exact (congrArg BitVec.toNat (peek_push16_high (s := s.opening fm) hw _)).trans (hi8_toNat _)
  case low => exact (congrArg BitVec.toNat (peek_push16_low (s := s.opening fm) hw _)).trans (lo8_toNat _)

/-- Settles O8: every form writes the word at `SP` to its register and moves `SP` past it. -/
theorem popReadsTheStack : Obligations.PopReadsTheStack := by
  intro s p
  have hv : s.top16.toNat = (s.peek s.cpu.sp).toNat + 256 * (s.peek (s.cpu.sp + 1)).toNat :=
    Memory.read16_toNat s.mem s.cpu.sp
  refine ⟨?pair, ?index⟩
  case pair =>
    have hx : exec (.popQq p) s = .next (((s.opening .u1).dropWord.setPairAf p s.top16).closing .u1) := rfl
    exact ⟨_, hx, by simpa using hv, by simp,
      (((Touches.self _).setSp _).setPairAf p _ (List.subset_cons_self ..)).finishes⟩
  case index =>
    rintro ⟨i, x⟩ hp
    have hx : exec i s = .next (((s.opening .xy2).dropWord.setXy x s.top16).closing .xy2) := by
      simp only [List.mem_cons, List.not_mem_nil, or_false] at hp
      rcases hp with e | e <;> cases e <;> rfl
    exact ⟨_, hx, by simpa using hv, by simp, (((Touches.self _).setSp _).setXy _ _).finishes⟩

end Sys2Proof.Machine

/-! SUPPORT. O9 to O12: the exchanges, and the end of an iteration of a block instruction, which repeats or is the last
(41_exchange_block.md R500 to R523). -/

namespace Sys2Proof.Machine

/-! ## The register exchanges -/

/-- `DE` exchanged with `HL` (R500), register by register as `swapAf` and `swapMain` are. -/
def swapDeHl (c : Cpu) : Cpu := { c with d := c.h, e := c.l, h := c.d, l := c.e }

theorem setDe_setHl_eq_swapDeHl (s : State) : (s.setDe s.hl).setHl s.de = s.withCpu swapDeHl := by
  simp [State.setDe, State.setHl, State.withCpu, State.hl, State.de, swapDeHl]

theorem exec_exDeHl (s : State) : exec .exDeHl s = .next (((s.opening .u1).withCpu swapDeHl).closing .u1) :=
  congrArg (fun u : State => Host.Outcome.next (u.closing .u1)) (setDe_setHl_eq_swapDeHl (s.opening .u1))

theorem exec_exAfAf (s : State) : exec .exAfAf s = .next (((s.opening .u1).withCpu swapAf).closing .u1) := rfl

theorem exec_exx (s : State) : exec .exx s = .next (((s.opening .u1).withCpu swapMain).closing .u1) := rfl

theorem loc_swapDeHl_ne (s : State) (l : Loc) (h : l ∉ [Loc.reg .d, .reg .e, .reg .h, .reg .l]) :
    (s.withCpu swapDeHl).loc l = s.loc l := by
  cases l with
  | reg q =>
    cases q
    case d | e | h | l => simp at h
    all_goals rfl
  | _ => rfl

theorem loc_swapAf_ne (s : State) (l : Loc) (h : l ∉ [Loc.reg .a, .f, .altA, .altF]) :
    (s.withCpu swapAf).loc l = s.loc l := by
  cases l with
  | reg q =>
    cases q
    case a => simp at h
    all_goals rfl
  | f | altA | altF => simp at h
  | _ => rfl

/-- The places EXX exchanges (R502). -/
def mainLocs : List Loc :=
  [.reg .b, .reg .c, .reg .d, .reg .e, .reg .h, .reg .l, .altB, .altC, .altD, .altE, .altH, .altL]

theorem loc_swapMain_ne (s : State) (l : Loc) (h : l ∉ mainLocs) : (s.withCpu swapMain).loc l = s.loc l := by
  cases l with
  | reg q =>
    cases q
    case a => rfl
    all_goals simp [mainLocs] at h
  | altB | altC | altD | altE | altH | altL => simp [mainLocs] at h
  | _ => rfl

/-- Each register exchange undoes itself: two of them do what two instructions with no effect do. -/
theorem exchange_twice {i : Instr} (hi : i ∈ [Instr.exDeHl, .exAfAf, .exx]) (s : State) :
    ∃ u, exec i s = .next u ∧
      exec i u = .next ((((s.opening .u1).closing .u1).opening .u1).closing .u1) := by
  simp only [List.mem_cons, List.not_mem_nil, or_false] at hi
  rcases hi with rfl | rfl | rfl
  · exact ⟨_, exec_exDeHl s, exec_exDeHl _⟩
  · exact ⟨_, exec_exAfAf s, exec_exAfAf _⟩
  · exact ⟨_, exec_exx s, exec_exx _⟩

/-- Settles O9: each exchange is one swap of the register file, and the swap is its own inverse. -/
theorem registerExchanges : Obligations.RegisterExchanges := by
  intro s
  refine ⟨?deHl, ?afAf, ?main, ?twice⟩
  case deHl =>
    exact ⟨_, exec_exDeHl s, rfl, rfl, ((Touches.self _).withCpu (loc_swapDeHl_ne _) rfl rfl rfl).finishes⟩
  case afAf =>
    exact ⟨_, exec_exAfAf s, rfl, rfl, rfl, rfl, ((Touches.self _).withCpu (loc_swapAf_ne _) rfl rfl rfl).finishes⟩
  case main =>
    exact ⟨_, exec_exx s, rfl, rfl, rfl, rfl, rfl, rfl,
      ((Touches.self _).withCpu (loc_swapMain_ne _) rfl rfl rfl).finishes⟩
  case twice =>
    intro i hi
    obtain ⟨u, first, second⟩ := exchange_twice hi s
    refine ⟨u, first, _, second, ?frame, BitVec.add_assoc s.cpu.pc 1 1⟩
    constructor <;> simp

/-! ## The exchanges with the top of the stack -/

/-- Settles O10: each exchange writes its word at `SP` and then loads the word read there before. -/
theorem stackTopExchanges : Obligations.StackTopExchanges := by
  intro s hw
  refine ⟨?hl, ?index⟩
  case hl =>
    have hx : exec .exSpHl s =
      .next ((((s.opening .u1).poke16 s.cpu.sp s.hl).setPair .hl (s.peek16 s.cpu.sp)).closing .u1) := rfl
    have touches := ((Touches.self (ch := pairLocs .hl) (s.opening .u1)).poke16 s.cpu.sp s.hl
      (List.Subset.refl _)).setPair .hl (s.peek16 s.cpu.sp) (List.Subset.refl _)
    refine ⟨_, hx, cat_hi8_lo8 _, ?low, ?high, touches.finishes⟩
    case low => exact (Memory.read_write16_low hw _ _).trans (lo8_cat _ _)
    case high => exact (Memory.read_write16_high hw _ _).trans (hi8_cat _ _)
  case index =>
    rintro ⟨i, x⟩ hp
    have hx : exec i s =
        .next ((((s.opening .xy2).poke16 s.cpu.sp (s.xy x)).setXy x (s.peek16 s.cpu.sp)).closing .xy2) := by
      simp only [List.mem_cons, List.not_mem_nil, or_false] at hp
      rcases hp with e | e <;> cases e <;> rfl
    refine ⟨_, hx, by simp [State.peek16, Memory.read16], ?low, ?high,
      (((Touches.self _).poke16 _ _ (List.Subset.refl _)).setXy _ _).finishes⟩
    case low => simp [State.half, Memory.read_write16_low hw]
    case high => simpa [State.half] using Memory.read_write16_high hw s.cpu.sp (s.xy x)

/-! ## The end of an iteration (R520, R523) -/

/-- The end of an iteration of a block instruction: one that repeats draws the flags of `mask` and keeps `PC`, the last one
moves on. -/
def State.endIteration (mask : Byte) (again : Bool) (s : State) : State :=
  if again then s.drawFlags mask else s.closing .ed2

theorem iteration_eq (mask : Byte) (effect : State → State) (again : State → Bool) (s : State) :
    iteration mask effect again s =
      .next ((effect (s.opening .ed2)).endIteration mask (again (effect (s.opening .ed2)))) := rfl

/-- A block instruction of one iteration ends as a last iteration does. -/
theorem straight_eq_endIteration (mask : Byte) (effect : State → State) (s : State) :
    straight .ed2 effect s = .next ((effect (s.opening .ed2)).endIteration mask false) := rfl

namespace State

@[simp] theorem endIteration_mem (s : State) (mask : Byte) (again : Bool) : (s.endIteration mask again).mem = s.mem := by
  cases again <;> rfl
@[simp] theorem bc_endIteration (s : State) (mask : Byte) (again : Bool) : (s.endIteration mask again).bc = s.bc := by
  cases again <;> rfl
@[simp] theorem de_endIteration (s : State) (mask : Byte) (again : Bool) : (s.endIteration mask again).de = s.de := by
  cases again <;> rfl
@[simp] theorem hl_endIteration (s : State) (mask : Byte) (again : Bool) : (s.endIteration mask again).hl = s.hl := by
  cases again <;> rfl

/-- Only an iteration that repeats takes a draw (R523). -/
theorem endIteration_host (s : State) (mask : Byte) (again : Bool) :
    (s.endIteration mask again).host = if again then { s.host with draws := s.host.draws + 1 } else s.host := by
  cases again <;> rfl

/-- A draw of X and Y keeps the other six flags (R523). -/
theorem flags_drawFlags_drawnXY (s : State) :
    (s.drawFlags drawnXY).flags = { s.flags with y := s.drawn.getLsbD 5, x := s.drawn.getLsbD 3 } := by
  simp [flags, Flags.ofByte, drawnXY]

/-- The flags an iteration ends with: its own, but for a draw of X and Y where it repeats (R523). -/
@[simp] theorem flags_endIteration_drawnXY (s : State) (again : Bool) :
    (s.endIteration drawnXY again).flags =
      { s.flags with
        y := if again then s.drawn.getLsbD 5 else s.flags.y
        x := if again then s.drawn.getLsbD 3 else s.flags.x } := by
  cases again
  case false => rfl
  case true => exact flags_drawFlags_drawnXY s

end State

theorem loc_drawFlags_ne (s : State) {l : Loc} (mask : Byte) (h : l ≠ .f) : (s.drawFlags mask).loc l = s.loc l :=
  loc_setF_ne s _ h

/-- The end of an iteration is within the frame of its effect, when that may write `F`. -/
theorem Frame.endIteration {ch : List Loc} {st : List Word} {s t : State} (h : Frame ch st (s.opening .ed2) t)
    (mask : Byte) (again : Bool) (hf : .f ∈ ch := by simp) : Frame ch st s (t.endIteration mask again) := by
  have hl : ∀ l, l ∉ ch → (t.endIteration mask again).loc l = s.loc l := by
    intro l hn
    rw [← loc_opening s .ed2 l, ← h.regs l hn]
    cases again
    case false => exact loc_closing t .ed2 l
    case true => exact loc_drawFlags_ne t mask (ne_of_mem_of_not_mem hf hn).symm
  cases again <;> exact { h with regs := hl }

/-- An iteration that repeats ends at its own address, the last one behind it (R520). -/
theorem endsAt_endIteration {s t : State} (mask : Byte) (again : Bool) (hpc : t.cpu.pc = s.cpu.pc)
    (hr : t.cpu.r = bumpR Format.ed2.m1 s.cpu.r) (he : t.cpu.eiDelay = false) :
    EndsAt .ed2 (if again then s.cpu.pc else s.after .ed2) s (t.endIteration mask again) := by
  cases again
  case false => exact ⟨congrArg (· + BitVec.ofNat 16 Format.ed2.length) hpc, hr, he⟩
  case true => exact ⟨hpc, hr, he⟩

/-! ## Block transfer and block search (R505 to R512, R521, R522) -/

theorem bit_eq_ite (b : Bool) : bit b = if b then 1 else 0 := by cases b <;> rfl

theorem sub_beq_zero {w : Nat} (a b : BitVec w) : (a - b == 0) = decide (a = b) := by
  have h : a - b = 0 ↔ a = 0#w + b := BitVec.sub_eq_iff_eq_add
  rw [BitVec.zero_add] at h
  rw [Bool.beq_eq_decide_eq]
  exact decide_eq_decide.mpr h

theorem sub_one_bne_zero (w : Word) : (w - 1 != 0) = decide (w ≠ 1) := by
  rw [bne, sub_beq_zero, decide_not]

section BlockTransfer

variable (delta : Word) (s : State)

@[simp] theorem transferByte_mem : (transferByte delta s).mem = s.mem.write s.de (s.peek s.hl) := rfl
@[simp] theorem transferByte_hl : (transferByte delta s).hl = s.hl + delta := cat_hi8_lo8 _
@[simp] theorem transferByte_de : (transferByte delta s).de = s.de + delta := cat_hi8_lo8 _
@[simp] theorem transferByte_bc : (transferByte delta s).bc = s.bc - 1 := cat_hi8_lo8 _

theorem transferByte_flags :
    (transferByte delta s).flags = transferFlags s.flags s.cpu.a (s.peek s.hl) (s.bc - 1) := by
  rw [← transferByte_bc delta s]
  exact State.flags_setFlags _ _

theorem transferByte_touches :
    Touches [.reg .b, .reg .c, .reg .d, .reg .e, .reg .h, .reg .l, .f] [s.de] s (transferByte delta s) :=
  (((((Touches.self s).poke _ _).setPair .hl _ (by simp [pairLocs])).setPair .de _ (by simp [pairLocs])).setPair .bc _
    (by simp [pairLocs])).setFlags _

end BlockTransfer

section BlockSearch

variable (delta : Word) (s : State)

@[simp] theorem compareByte_a : (compareByte delta s).cpu.a = s.cpu.a := rfl
@[simp] theorem compareByte_hl : (compareByte delta s).hl = s.hl + delta := cat_hi8_lo8 _
@[simp] theorem compareByte_bc : (compareByte delta s).bc = s.bc - 1 := cat_hi8_lo8 _

theorem compareByte_flags :
    (compareByte delta s).flags = compareFlags s.flags s.cpu.a (s.peek s.hl) (s.bc - 1) := by
  rw [← compareByte_bc delta s]
  exact State.flags_setFlags _ _

theorem compareByte_touches :
    Touches [.reg .b, .reg .c, .reg .h, .reg .l, .f] [] s (compareByte delta s) :=
  (((Touches.self s).setPair .hl _ (by simp [pairLocs])).setPair .bc _ (by simp [pairLocs])).setFlags _

end BlockSearch

/-- Settles O11: each form is one transfer and the end of an iteration, which repeats for LDIR and LDDR unless `BC` was 1. -/
theorem blockTransfersMoveOneByte : Obligations.BlockTransfersMoveOneByte := by
  rintro s hw ⟨i, delta, rep⟩ hp
  have hx : exec i s =
      .next ((transferByte delta (s.opening .ed2)).endIteration drawnXY (rep && decide (s.bc ≠ 1))) := by
    have hbc : ((transferByte delta (s.opening .ed2)).bc != 0) = decide (s.bc ≠ 1) := by
      rw [transferByte_bc, sub_one_bne_zero, State.bc_opening]
    simp only [List.mem_cons, List.not_mem_nil, or_false] at hp
    rcases hp with e | e | e | e <;> cases e
    case inl | inr.inl => exact straight_eq_endIteration ..
    all_goals
      rw [← hbc]
      exact iteration_eq drawnXY (transferByte _) (fun t => t.bc != 0) s
  have touches := transferByte_touches delta (s.opening .ed2)
  refine ⟨_, hx, ?_⟩
  dsimp only
  generalize (rep && decide (s.bc ≠ 1)) = again
  rw [State.flags_endIteration_drawnXY, transferByte_flags]
  refine ⟨?byte, by simp, by simp, by simp, rfl, rfl, rfl, rfl, rfl,
    sub_one_bne_zero _, ?last, ?more, touches.toFrame.endIteration _ _,
    endsAt_endIteration _ _ touches.pc touches.refresh touches.eiDelay⟩
  case byte => simp [Memory.read_write hw]
  case last =>
    rintro rfl
    exact ⟨rfl, rfl, touches.host⟩
  case more =>
    rintro rfl
    simp [State.endIteration_host, touches.host]

/-- Settles O12: each form is one search and the end of an iteration, which repeats for CPIR and CPDR unless `BC` was 1 or the
byte is found. -/
theorem blockSearchesCompareOneByte : Obligations.BlockSearchesCompareOneByte := by
  rintro s ⟨i, delta, rep⟩ hp
  have hx : exec i s =
      .next ((compareByte delta (s.opening .ed2)).endIteration drawnXY
        (rep && decide (s.bc ≠ 1) && decide (s.cpu.a ≠ s.peek s.hl))) := by
    have hbc : ((compareByte delta (s.opening .ed2)).bc != 0) = decide (s.bc ≠ 1) := by
      rw [compareByte_bc, sub_one_bne_zero, State.bc_opening]
    have ha : ((compareByte delta (s.opening .ed2)).cpu.a != s.atHl) = decide (s.cpu.a ≠ s.peek s.hl) := by
      rw [bne, Bool.beq_eq_decide_eq, compareByte_a, decide_not, State.opening_a, State.atHl]
    simp only [List.mem_cons, List.not_mem_nil, or_false] at hp
    rcases hp with e | e | e | e <;> cases e
    case inl | inr.inl => exact straight_eq_endIteration ..
    all_goals
      rw [← hbc, ← ha]
      exact iteration_eq drawnXY (compareByte _) (fun t => t.bc != 0 && t.cpu.a != s.atHl) s
  have touches := compareByte_touches delta (s.opening .ed2)
  refine ⟨_, hx, ?_⟩
  dsimp only
  rw [← bit_eq_ite]
  generalize (rep && decide (s.bc ≠ 1) && decide (s.cpu.a ≠ s.peek s.hl)) = again
  rw [State.flags_endIteration_drawnXY, compareByte_flags]
  refine ⟨by simp, by simp, rfl, ?zero, rfl, sub_one_bne_zero _, rfl, rfl, ?last, ?more,
    touches.toFrame.endIteration _ _, endsAt_endIteration _ _ touches.pc touches.refresh touches.eiDelay⟩
  case zero => exact sub_beq_zero _ _
  case last =>
    rintro rfl
    exact ⟨rfl, rfl, touches.host⟩
  case more =>
    rintro rfl
    simp [State.endIteration_host, touches.host]

end Sys2Proof.Machine

/-! SUPPORT. O13 to O17: signed overflow as a fact about the exact result (00_scope.md R16), the operand forms of an 8-bit
operation said once for all operations (42_alu8.md R603), and a read, change and write of a byte (R604, R605, R906). -/

namespace Sys2Proof.Machine

/-! ## Signed overflow (R16) -/

/-- A sum narrowed to `w` bits is that of the operands as two's-complement numbers. -/
theorem ofNat_sum_eq_ofInt {w : Nat} (a b : BitVec w) (c : Nat) :
    BitVec.ofNat w (a.toNat + b.toNat + c) = BitVec.ofInt w (a.toInt + b.toInt + c) := by
  simp [BitVec.ofInt_add, BitVec.ofNat_add]

/-- Narrowing keeps differences, as `BitVec.ofInt_add` says of sums. -/
theorem ofInt_sub {w : Nat} (x y : Int) : BitVec.ofInt w (x - y) = BitVec.ofInt w x - BitVec.ofInt w y := by
  rw [Int.sub_eq_add_neg, BitVec.ofInt_add, BitVec.ofInt_neg, BitVec.sub_eq_add_neg]

/-- A difference narrowed to `w` bits is that of the operands as two's-complement numbers. -/
theorem ofInt_diff_eq_ofInt {w : Nat} (a b : BitVec w) (c : Nat) :
    BitVec.ofInt w ((a.toNat : Int) - b.toNat - c) = BitVec.ofInt w (a.toInt - b.toInt - c) := by
  simp [ofInt_sub]

theorem overflows_eq_false {w : Nat} {e : Int} :
    overflows w e = false ↔ -(2 ^ (w - 1) : Int) ≤ e ∧ e < 2 ^ (w - 1) := by
  rw [overflows, Bool.or_eq_false_iff, decide_eq_false_iff_not, decide_eq_false_iff_not, Int.not_lt, ge_iff_le, Int.not_le]

/-- The sign of a result narrowed to `w` bits is that of the exact result but on overflow, where it is the opposite. -/
theorem msb_ofInt_eq_xor_overflows {w : Nat} (hw : 0 < w) {e : Int} (lo : -(2 ^ w : Int) ≤ e) (hi : e < 2 ^ w) :
    (BitVec.ofInt w e).msb = (decide (e < 0) ^^ overflows w e) := by
  have two : (2 ^ (w - 1) : Int) + 2 ^ (w - 1) = 2 ^ w := mod_cast Nat.two_pow_pred_add_two_pow_pred hw
  have pos : (0 : Int) < 2 ^ (w - 1) := Int.pow_pos (by decide)
  have cast : ((2 ^ w : Nat) : Int) = 2 ^ w := by norm_cast
  rw [BitVec.msb_eq_toInt, BitVec.toInt_ofInt]
  rcases Int.lt_or_le e (-(2 ^ (w - 1) : Int)) with below | h
  · have neg : e < 0 := by omega
    have wrapped : ¬ e + (2 ^ w : Nat) < 0 := by omega
    rw [← Int.add_bmod_right, Int.bmod_eq_of_le (by omega) (by omega), overflows, decide_eq_false wrapped,
      decide_eq_true neg, decide_eq_true below, Bool.true_or, Bool.xor_true, Bool.not_true]
  rcases Int.lt_or_le e (2 ^ (w - 1) : Int) with inside | above
  · rw [Int.bmod_eq_of_le (by omega) (by omega), overflows_eq_false.mpr ⟨h, inside⟩, Bool.xor_false]
  · have nonneg : ¬ e < 0 := by omega
    have wrapped : e - (2 ^ w : Nat) < 0 := by omega
    rw [← Int.sub_bmod_right, Int.bmod_eq_of_le (by omega) (by omega), overflows, decide_eq_true wrapped,
      decide_eq_false nonneg, decide_eq_true above, Bool.or_true, Bool.xor_true, Bool.not_false]

/-- `a` and `b` the signs of two summands, `e` that of their sum, `o` whether it overflows: the narrowed sum differs in sign
from two summands of one sign exactly on overflow, which summands of two signs cannot bring about. -/
theorem wrong_sign_eq_overflow {a b e o : Bool} (same : a = b → e = a) (differ : a ≠ b → o = false) :
    (!(a ^^ b) && (a ^^ (e ^^ o))) = o := by
  revert a b e o
  decide

/-- The sign test of R16 on a sum of two numbers of `w` bits and a carry. -/
theorem sign_test_eq_overflows {w : Nat} (hw : 0 < w) {x y c : Int} (x_lo : -2 ^ (w - 1) ≤ x) (x_hi : x < 2 ^ (w - 1))
    (y_lo : -2 ^ (w - 1) ≤ y) (y_hi : y < 2 ^ (w - 1)) (c_lo : 0 ≤ c) (c_hi : c ≤ 1) :
    (!(decide (x < 0) ^^ decide (y < 0)) && (decide (x < 0) ^^ (BitVec.ofInt w (x + y + c)).msb)) =
      overflows w (x + y + c) := by
  have two : (2 ^ (w - 1) : Int) + 2 ^ (w - 1) = 2 ^ w := mod_cast Nat.two_pow_pred_add_two_pow_pred hw
  rw [msb_ofInt_eq_xor_overflows hw (by omega) (by omega)]
  apply wrong_sign_eq_overflow
  all_goals
    simp only [ne_eq, decide_eq_decide, overflows_eq_false]
    omega

theorem addOverflow_eq_overflows {w : Nat} (hw : 0 < w) (a b : BitVec w) (c : Bool) :
    addOverflow a b (BitVec.ofNat w (a.toNat + b.toNat + c.toNat)) = overflows w (a.toInt + b.toInt + c.toNat) := by
  have c_le := Bool.toNat_le c
  rw [addOverflow, ofNat_sum_eq_ofInt, ← BitVec.msb_eq_getLsbD_last, BitVec.msb_and, BitVec.msb_not, BitVec.msb_xor,
    BitVec.msb_xor, decide_eq_true hw, Bool.true_and, BitVec.msb_eq_toInt (x := a), BitVec.msb_eq_toInt (x := b)]
  exact sign_test_eq_overflows hw a.le_toInt a.toInt_lt b.le_toInt b.toInt_lt (by omega) (by omega)

/-- `a - b - c` is the sum of `a`, the complement `-b - 1` of `b`, which has the other sign, and the carry `1 - c`. -/
theorem subOverflow_eq_overflows {w : Nat} (hw : 0 < w) (a b : BitVec w) (c : Bool) :
    subOverflow a b (BitVec.ofInt w ((a.toNat : Int) - b.toNat - c.toNat)) =
      overflows w (a.toInt - b.toInt - c.toNat) := by
  have c_le := Bool.toNat_le c
  have b_lo := b.le_toInt
  have b_hi := b.toInt_lt
  have complement : a.toInt - b.toInt - c.toNat = a.toInt + (-b.toInt - 1) + (1 - c.toNat) := by omega
  have turned : b.msb = !decide (-b.toInt - 1 < 0) := by
    rw [BitVec.msb_eq_toInt, ← decide_not, decide_eq_decide]
    omega
  rw [subOverflow, ofInt_diff_eq_ofInt, ← BitVec.msb_eq_getLsbD_last, BitVec.msb_and, BitVec.msb_xor, BitVec.msb_xor,
    turned, Bool.xor_not, complement, BitVec.msb_eq_toInt (x := a)]
  exact sign_test_eq_overflows hw a.le_toInt a.toInt_lt (by omega) (by omega) (by omega) (by omega)

/-! ## The results and flags of the operations (R600 to R602, R606) -/

theorem add8_toNat (a b : Byte) (c : Bool) : (add8 a b c).1.toNat = (a.toNat + b.toNat + c.toNat) % 256 :=
  BitVec.toNat_ofNat _ _

theorem add8_pv (a b : Byte) (c : Bool) :
    (add8 a b c).2.pv = overflows 8 (signed8 a + signed8 b + c.toNat) := addOverflow_eq_overflows (by decide) a b c

theorem sub8_toNat (a b : Byte) (c : Bool) :
    ((sub8 a b c).1.toNat : Int) = ((a.toNat : Int) - b.toNat - c.toNat) % 256 :=
  (congrArg Nat.cast (BitVec.toNat_ofInt _)).trans (Int.toNat_of_nonneg (Int.emod_nonneg _ (by decide)))

/-- H is the borrow into bit 4 (R601). -/
theorem sub8_h (a b : Byte) (c : Bool) : (sub8 a b c).2.h = decide (a.toNat % 16 < b.toNat % 16 + c.toNat) := by
  apply decide_eq_decide.mpr
  omega

theorem sub8_pv (a b : Byte) (c : Bool) :
    (sub8 a b c).2.pv = overflows 8 (signed8 a - signed8 b - c.toNat) := subOverflow_eq_overflows (by decide) a b c

theorem sub8_false (a b : Byte) : (sub8 a b false).1 = a - b := by
  simp [sub8, ofInt_sub]

/-- C is the borrow: with none before it, `A` is below the operand (R601). -/
theorem sub8_c_false (a b : Byte) : (sub8 a b false).2.c = decide (a.toNat < b.toNat) := by
  simp only [sub8, decide_eq_decide, Bool.toNat_false]
  omega

/-- Whether the members of a list with a property are even in number, as an exclusive or over the list. -/
theorem even_length_filter {α : Type} (p : α → Bool) (l : List α) :
    decide ((l.filter p).length % 2 = 0) = !(l.foldr (fun k b => p k ^^ b) false) := by
  induction l with
  | nil => rfl
  | cons k l ih =>
    rw [List.foldr_cons, ← Bool.xor_not, ← ih]
    cases hk : p k
    case false => simp [hk]
    case true =>
      rw [List.filter_cons_of_pos hk, List.length_cons, Bool.true_xor, ← decide_not, decide_eq_decide]
      omega

/-- The parity of R16 is that of the number of 1 bits. -/
theorem parity_eq_even_ones (v : Byte) : parity v = decide (ones v % 2 = 0) := by
  rw [ones, even_length_filter]
  simp [parity, List.range_succ]

/-! ## The operand forms of an operation (R603) -/

/-- Each form of `k` is the operation `op` of its operand. -/
structure AluRows.Performs (k : AluRows) (op : Byte → State → State) : Prop where
  r : ∀ r s, exec (k.r r) s = straight .u1 (fun s => op (s.reg r) s) s
  n : ∀ n s, exec (k.n n) s = straight .u2n (op n) s
  hl : ∀ s, exec k.hl s = straight .u1 (fun s => op s.atHl s) s
  ixd : ∀ d s, exec (k.ixd d) s = straight .xy3d (fun s => op (s.atXy .ix d) s) s
  iyd : ∀ d s, exec (k.iyd d) s = straight .xy3d (fun s => op (s.atXy .iy d) s) s
  ixh : ∀ h s, exec (k.ixh h) s = straight .xy2 (fun s => op (s.half .ix h) s) s
  iyh : ∀ h s, exec (k.iyh h) s = straight .xy2 (fun s => op (s.half .iy h) s) s

theorem addRows_performs : addRows.Performs accAdd := by constructor <;> intros <;> rfl
theorem adcRows_performs : adcRows.Performs accAdc := by constructor <;> intros <;> rfl
theorem subRows_performs : subRows.Performs accSub := by constructor <;> intros <;> rfl
theorem sbcRows_performs : sbcRows.Performs accSbc := by constructor <;> intros <;> rfl
theorem andRows_performs : andRows.Performs accAnd := by constructor <;> intros <;> rfl
theorem xorRows_performs : xorRows.Performs accXor := by constructor <;> intros <;> rfl
theorem orRows_performs : orRows.Performs accOr := by constructor <;> intros <;> rfl
theorem cpRows_performs : cpRows.Performs accCp := by constructor <;> intros <;> rfl

/-- The operand is the same before and after the opening of an instruction, so that a form is one operation of its value. -/
theorem AluRows.Performs.exec_form {k : AluRows} {op : Byte → State → State} (hk : k.Performs op) {s : State} {r : Reg8}
    {n d : Byte} {h : Half} {x : Form} (hx : x ∈ k.forms s r n d h) :
    exec x.instr s = .next ((op x.value (s.opening x.fm)).closing x.fm) := by
  simp only [forms, List.mem_cons, List.not_mem_nil, or_false] at hx
  rcases hx with rfl | rfl | rfl | rfl | rfl | rfl | rfl
  · simp [hk.r, straight_eq]
  · simp [hk.n, straight_eq]
  · simp [hk.hl, straight_eq, State.atHl]
  · simp [hk.ixd, straight_eq, State.atXy]
  · simp [hk.iyd, straight_eq, State.atXy]
  · simp [hk.ixh, straight_eq]
  · simp [hk.iyh, straight_eq]

theorem setAcc_touches (s : State) (v : Byte × Flags) : Touches [.reg .a, .f] [] s (s.setAcc v) :=
  ((Touches.self s).setA _).setFlags _

/-- An instruction that puts a result and its flags in `A` and `F`, and nothing else. -/
theorem completes_setAcc {i : Instr} {s : State} {fm : Format} {v : Byte × Flags}
    (hx : exec i s = .next (((s.opening fm).setAcc v).closing fm)) :
    Completes i s fun t => t.cpu.a = v.1 ∧ t.flags = v.2 ∧ Frame [.reg .a, .f] [] s t ∧ Finishes fm s t :=
  ⟨_, hx, rfl, State.flags_setFlags ((s.opening fm).setA v.1) v.2, (setAcc_touches _ v).finishes⟩

theorem Completes.mono {i : Instr} {s : State} {P Q : State → Prop} (h : Completes i s P) (hpq : ∀ t, P t → Q t) :
    Completes i s Q := by
  obtain ⟨t, hx, hp⟩ := h
  exact ⟨t, hx, hpq t hp⟩

/-- Settles O13: every form is one `Add8` into `A`, with no carry or that of `F`. -/
theorem additionIsExact : Obligations.AdditionIsExact := by
  rintro s r n d h ⟨k, c⟩ hp x hx
  have sum : exec x.instr s = .next (((s.opening x.fm).setAcc (add8 s.cpu.a x.value c)).closing x.fm) := by
    simp only [List.mem_cons, List.not_mem_nil, or_false] at hp
    rcases hp with e | e <;> cases e
    case inl => exact addRows_performs.exec_form hx
    case inr => exact adcRows_performs.exec_form hx
  refine (completes_setAcc sum).mono fun t ⟨ha, hf, hframe⟩ => ?_
  rw [ha, hf]
  exact ⟨add8_toNat _ _ _, szyx_of_bits rfl rfl rfl rfl, rfl, add8_pv _ _ _, rfl, rfl, hframe⟩

/-- Settles O14: every form is one `Sub8` into `A`, with no borrow or that of `F`. -/
theorem subtractionIsExact : Obligations.SubtractionIsExact := by
  rintro s r n d h ⟨k, c⟩ hp x hx
  have diff : exec x.instr s = .next (((s.opening x.fm).setAcc (sub8 s.cpu.a x.value c)).closing x.fm) := by
    simp only [List.mem_cons, List.not_mem_nil, or_false] at hp
    rcases hp with e | e <;> cases e
    case inl => exact subRows_performs.exec_form hx
    case inr => exact sbcRows_performs.exec_form hx
  refine (completes_setAcc diff).mono fun t ⟨ha, hf, hframe⟩ => ?_
  rw [ha, hf]
  exact ⟨sub8_toNat _ _ _, szyx_of_bits rfl rfl rfl rfl, sub8_h _ _ _, sub8_pv _ _ _, rfl, rfl, hframe⟩

/-- Settles O15: every form writes the flags of one `Compare8`, those of `Sub8` but for X and Y, and nothing
else. -/
theorem compareKeepsAccumulator : Obligations.CompareKeepsAccumulator := by
  intro s r n d h x hx
  have hf : (accCp x.value (s.opening x.fm)).flags = compare8 s.cpu.a x.value := State.flags_setFlags _ _
  refine ⟨_, cpRows_performs.exec_form hx, ?_⟩
  dsimp only
  rw [State.flags_closing, hf]
  refine ⟨?sign, ?zero, rfl, rfl, sub8_h _ _ _, ?pv, rfl, sub8_c_false _ _, ((Touches.self _).setFlags _).finishes⟩
  case sign => exact congrArg (BitVec.getLsbD · 7) (sub8_false _ _)
  case zero => exact (congrArg (· == 0) (sub8_false _ _)).trans (sub_beq_zero _ _)
  case pv => exact (sub8_pv _ _ _).trans (congrArg (overflows 8) (Int.sub_zero _))

/-- Settles O16: every form is one `Logic` of a bitwise operation, which works bit by bit. -/
theorem logicIsBitwise : Obligations.LogicIsBitwise := by
  rintro s r n d h ⟨k, f, hflag⟩ hp x hx
  have result : ∃ v : Byte, exec x.instr s = .next (((s.opening x.fm).setAcc (logic v hflag)).closing x.fm) ∧
      ∀ k, k < 8 → v.getLsbD k = f (s.cpu.a.getLsbD k) (x.value.getLsbD k) := by
    simp only [List.mem_cons, List.not_mem_nil, or_false] at hp
    rcases hp with e | e | e <;> cases e
    case inl => exact ⟨_, andRows_performs.exec_form hx, fun _ _ => BitVec.getLsbD_and⟩
    case inr.inl => exact ⟨_, xorRows_performs.exec_form hx, fun _ _ => BitVec.getLsbD_xor⟩
    case inr.inr => exact ⟨_, orRows_performs.exec_form hx, fun _ _ => BitVec.getLsbD_or⟩
  obtain ⟨v, hv, bits⟩ := result
  refine (completes_setAcc hv).mono fun t ⟨ha, hf, hframe⟩ => ?_
  rw [ha, hf]
  exact ⟨bits, szyx_of_bits rfl rfl rfl rfl, rfl, parity_eq_even_ones _, rfl, rfl, hframe⟩

/-! ## Read, change and write of a byte (R604, R605, R906) -/

namespace State

@[simp] theorem reg_setFlags (s : State) (fl : Flags) (r : Reg8) : (s.setFlags fl).reg r = s.reg r := by cases r <;> rfl

@[simp] theorem half_setFlags (s : State) (fl : Flags) (x : XY) (h : Half) : (s.setFlags fl).half x h = s.half x h := by
  cases x <;> rfl

@[simp] theorem reg_onReg (s : State) (r : Reg8) (f : Byte → Byte × Flags) : (s.onReg r f).reg r = (f (s.reg r)).1 := by
  simp [onReg]

@[simp] theorem half_onHalf (s : State) (x : XY) (h : Half) (f : Byte → Byte × Flags) :
    (s.onHalf x h f).half x h = (f (s.half x h)).1 := by
  simp [onHalf]

theorem half_onHalf_ne (s : State) (x : XY) {h k : Half} (f : Byte → Byte × Flags) (hk : k ≠ h) :
    (s.onHalf x h f).half x k = s.half x k := by
  rw [onHalf, half_setFlags, half_setHalf_ne _ _ _ hk]

theorem peek_onMem {s : State} (hw : s.mem.wf = true) (a : Word) (f : Byte → Byte × Flags) :
    (s.onMem a f).peek a = (f (s.peek a)).1 := Memory.read_write hw _ _

@[simp] theorem flags_onReg (s : State) (r : Reg8) (f : Byte → Byte × Flags) : (s.onReg r f).flags = (f (s.reg r)).2 :=
  flags_setFlags _ _

@[simp] theorem flags_onMem (s : State) (a : Word) (f : Byte → Byte × Flags) : (s.onMem a f).flags = (f (s.peek a)).2 :=
  flags_setFlags _ _

@[simp] theorem flags_onHalf (s : State) (x : XY) (h : Half) (f : Byte → Byte × Flags) :
    (s.onHalf x h f).flags = (f (s.half x h)).2 := flags_setFlags _ _

end State

theorem onReg_touches (s : State) (r : Reg8) (f : Byte → Byte × Flags) : Touches [.reg r, .f] [] s (s.onReg r f) :=
  ((Touches.self s).setReg _ _).setFlags _

theorem onMem_touches (s : State) (a : Word) (f : Byte → Byte × Flags) : Touches [.f] [a] s (s.onMem a f) :=
  ((Touches.self s).poke _ _).setFlags _

theorem onHalf_touches (s : State) (x : XY) (h : Half) (f : Byte → Byte × Flags) :
    Touches [xyLoc x, .f] [] s (s.onHalf x h f) :=
  ((Touches.self s).setHalf _ _ _).setFlags _

section ReadChangeWrite

variable {i : Instr} {s : State} {fm : Format} {f : Byte → Byte × Flags}

theorem completes_onReg {r : Reg8} (hx : exec i s = .next (((s.opening fm).onReg r f).closing fm)) :
    Completes i s fun t => t.reg r = (f (s.reg r)).1 ∧ t.flags = (f (s.reg r)).2 ∧
      Frame [.reg r, .f] [] s t ∧ Finishes fm s t :=
  ⟨_, hx, by simp, by simp, (onReg_touches _ r f).finishes⟩

theorem completes_onMem (hw : s.mem.wf = true) {a : Word}
    (hx : exec i s = .next (((s.opening fm).onMem a f).closing fm)) :
    Completes i s fun t => t.peek a = (f (s.peek a)).1 ∧ t.flags = (f (s.peek a)).2 ∧
      Frame [.f] [a] s t ∧ Finishes fm s t :=
  ⟨_, hx, State.peek_onMem (s := s.opening fm) hw a f, State.flags_onMem (s.opening fm) a f,
    (onMem_touches _ a f).finishes⟩

theorem completes_onHalf {x : XY} {h : Half} (hx : exec i s = .next (((s.opening fm).onHalf x h f).closing fm)) :
    Completes i s fun t => t.half x h = (f (s.half x h)).1 ∧ t.flags = (f (s.half x h)).2 ∧
      (∀ k, k ≠ h → t.half x k = s.half x k) ∧ Frame [xyLoc x, .f] [] s t ∧ Finishes fm s t :=
  ⟨_, hx, by simp, by simp, fun k hk => by simp [State.half_onHalf_ne _ _ _ hk], (onHalf_touches _ x h f).finishes⟩

end ReadChangeWrite

/-! ## INC and DEC (R650 to R657) -/

/-- The constructors of INC or of DEC, in the forms of R650 to R657. -/
structure StepRows where
  r : Reg8 → Instr
  hl : Instr
  ixd : Byte → Instr
  iyd : Byte → Instr
  ixh : Half → Instr
  iyh : Half → Instr

def incRows : StepRows := ⟨.incR, .incHl, .incIxd, .incIyd, .incIxh, .incIyh⟩
def decRows : StepRows := ⟨.decR, .decHl, .decIxd, .decIyd, .decIxh, .decIyh⟩

/-- Each form of `k` is the change `f` of its operand under the flags before it. -/
structure StepRows.Performs (k : StepRows) (f : Flags → Byte → Byte × Flags) : Prop where
  r : ∀ r s, exec (k.r r) s = .next (((s.opening .u1).onReg r (f s.flags)).closing .u1)
  hl : ∀ s, exec k.hl s = .next (((s.opening .u1).onMem s.hl (f s.flags)).closing .u1)
  ixd : ∀ d s, exec (k.ixd d) s = .next (((s.opening .xy3d).onMem (s.ea .ix d) (f s.flags)).closing .xy3d)
  iyd : ∀ d s, exec (k.iyd d) s = .next (((s.opening .xy3d).onMem (s.ea .iy d) (f s.flags)).closing .xy3d)
  ixh : ∀ h s, exec (k.ixh h) s = .next (((s.opening .xy2).onHalf .ix h (f s.flags)).closing .xy2)
  iyh : ∀ h s, exec (k.iyh h) s = .next (((s.opening .xy2).onHalf .iy h (f s.flags)).closing .xy2)

theorem incRows_performs : incRows.Performs inc8 := by constructor <;> intros <;> rfl
theorem decRows_performs : decRows.Performs dec8 := by constructor <;> intros <;> rfl

/-- `fl` are the flags of INC or DEC of `v`, `old` those before: P/V set for the result `edge`, H for the low digit `digit`
before, N `sub`, C as it was (R604, R605). -/
def StepFlags (delta edge : Byte) (digit : Nat) (sub : Bool) (old : Flags) (v : Byte) (fl : Flags) : Prop :=
  SZYX (v + delta) fl ∧ fl.h = decide (v.toNat % 16 = digit) ∧ fl.pv = decide (v + delta = edge) ∧ fl.n = sub ∧
    fl.c = old.c

/-- `f` adds `delta` to a byte, with the flags of INC or DEC. -/
structure IsStep (delta edge : Byte) (digit : Nat) (sub : Bool) (f : Flags → Byte → Byte × Flags) : Prop where
  result : ∀ old v, (f old v).1 = v + delta
  flags : ∀ old v, StepFlags delta edge digit sub old v (f old v).2

theorem inc8_isStep : IsStep 1 0x80 15 false inc8 :=
  ⟨fun _ _ => rfl, fun _ _ => ⟨szyx_of_bits rfl rfl rfl rfl, rfl, rfl, rfl, rfl⟩⟩

theorem dec8_isStep : IsStep 0xFF 0x7F 0 true dec8 := by
  have minusOne (v : Byte) : v + 0xFF = v - 1 := (BitVec.sub_eq_add_neg v 1).symm
  constructor
  case result => exact fun _ v => (minusOne v).symm
  case flags =>
    intro old v
    rw [StepFlags, minusOne]
    exact ⟨szyx_of_bits rfl rfl rfl rfl, rfl, rfl, rfl, rfl⟩

section Steps

variable {k : StepRows} {f : Flags → Byte → Byte × Flags} {delta edge : Byte} {digit : Nat} {sub : Bool}
  (hk : k.Performs f) (hf : IsStep delta edge digit sub f) (s : State)

include hk hf

theorem completes_stepReg (r : Reg8) :
    Completes (k.r r) s fun t => t.reg r = s.reg r + delta ∧ StepFlags delta edge digit sub s.flags (s.reg r) t.flags ∧
      Frame [.reg r, .f] [] s t ∧ Finishes .u1 s t := by
  refine (completes_onReg (hk.r r s)).mono fun t ⟨hv, hfl, hframe⟩ => ?_
  rw [hv, hfl]
  exact ⟨hf.result _ _, hf.flags _ _, hframe⟩

theorem completes_stepMem (hw : s.mem.wf = true) (d : Byte) :
    ∀ m ∈ [(k.hl, Format.u1, s.hl), (k.ixd d, .xy3d, s.ea .ix d), (k.iyd d, .xy3d, s.ea .iy d)],
      Completes m.1 s fun t =>
        t.peek m.2.2 = s.peek m.2.2 + delta ∧ StepFlags delta edge digit sub s.flags (s.peek m.2.2) t.flags ∧
        Frame [.f] [m.2.2] s t ∧ Finishes m.2.1 s t := by
  rintro ⟨i, fm, a⟩ hm
  have hx : exec i s = .next (((s.opening fm).onMem a (f s.flags)).closing fm) := by
    simp only [List.mem_cons, List.not_mem_nil, or_false] at hm
    rcases hm with e | e | e <;> cases e
    case inl => exact hk.hl s
    case inr.inl => exact hk.ixd d s
    case inr.inr => exact hk.iyd d s
  refine (completes_onMem hw hx).mono fun t ⟨hv, hfl, hframe⟩ => ?_
  rw [hv, hfl]
  exact ⟨hf.result _ _, hf.flags _ _, hframe⟩

theorem completes_stepHalf (h : Half) :
    ∀ m ∈ [(k.ixh h, XY.ix), (k.iyh h, .iy)],
      Completes m.1 s fun t =>
        t.half m.2 h = s.half m.2 h + delta ∧ StepFlags delta edge digit sub s.flags (s.half m.2 h) t.flags ∧
        (∀ j, j ≠ h → t.half m.2 j = s.half m.2 j) ∧ Frame [xyLoc m.2, .f] [] s t ∧ Finishes .xy2 s t := by
  rintro ⟨i, x⟩ hm
  have hx : exec i s = .next (((s.opening .xy2).onHalf x h (f s.flags)).closing .xy2) := by
    simp only [List.mem_cons, List.not_mem_nil, or_false] at hm
    rcases hm with e | e <;> cases e
    case inl => exact hk.ixh h s
    case inr => exact hk.iyh h s
  refine (completes_onHalf hx).mono fun t ⟨hv, hfl, hframe⟩ => ?_
  rw [hv, hfl]
  exact ⟨hf.result _ _, hf.flags _ _, hframe⟩

end Steps

/-- Settles O17: every form is one read, change and write of its byte, by `Inc8` or by `Dec8`. -/
theorem incrementAndDecrement : Obligations.IncrementAndDecrement := by
  intro s r d h hw p hp
  simp only [List.mem_cons, List.not_mem_nil, or_false] at hp
  rcases hp with rfl | rfl
  case inl =>
    exact ⟨completes_stepReg incRows_performs inc8_isStep s r, completes_stepMem incRows_performs inc8_isStep s hw d,
      completes_stepHalf incRows_performs inc8_isStep s h⟩
  case inr =>
    exact ⟨completes_stepReg decRows_performs dec8_isStep s r, completes_stepMem decRows_performs dec8_isStep s hw d,
      completes_stepHalf decRows_performs dec8_isStep s h⟩

end Sys2Proof.Machine

/-! SUPPORT. O18 to O21: the accumulator and flag operations as numbers and the decimal correction (43_general_cpu_control.md
R700 to R704), the frames of the interrupt latches (R705 to R711), and the halted idle step (60_exceptions.md R1507). -/

namespace Sys2Proof.Machine

/-! ## CPL and NEG as numbers (R701, R702) -/

theorem cpl_toNat (old : Flags) (v : Byte) : (cpl old v).1.toNat = 255 - v.toNat := BitVec.toNat_not

theorem neg_toNat (v : Byte) : (sub8 0 v false).1.toNat = (256 - v.toNat) % 256 := by
  rw [sub8_false, BitVec.toNat_sub]
  rfl

theorem neg_h (v : Byte) : (sub8 0 v false).2.h = decide (v.toNat % 16 ≠ 0) :=
  (sub8_h 0 v false).trans (decide_eq_decide.mpr Nat.pos_iff_ne_zero)

/-- Only -128 has a negative outside the range of a byte (R702). -/
theorem neg_pv (v : Byte) : (sub8 0 v false).2.pv = decide (v = 0x80) := by
  have lo := v.le_toInt
  have hi := v.toInt_lt
  have edge : v = 0x80 ↔ v.toInt = -128 := BitVec.toInt_inj.symm
  have negated : signed8 0 - signed8 v - (false.toNat : Int) = -v.toInt := by simp [signed8]
  rw [sub8_pv, negated, overflows, ← Bool.decide_or, decide_eq_decide, edge]
  omega

theorem neg_c (v : Byte) : (sub8 0 v false).2.c = decide (v ≠ 0) := by
  rw [sub8_c_false, decide_eq_decide, ← BitVec.toNat_ne_iff_ne]
  exact Nat.pos_iff_ne_zero

/-! ## DAA (R700) -/

/-- DAA corrects the low digit. -/
def daaLow (old : Flags) (v : Byte) : Bool := old.h || decide (9 < v.toNat % 16)

/-- DAA corrects the high digit. -/
def daaHigh (old : Flags) (v : Byte) : Bool := old.c || decide (0x99 < v.toNat)

/-- The correction of the digits `low` and `high`. -/
def daaCorrection (low high : Bool) : Int := (if low then 0x06 else 0) + (if high then 0x60 else 0)

/-- The corrections of the two digits have no bit in common: their bitwise or is their sum. -/
theorem daaCorrection_eq_or (low high : Bool) :
    daaCorrection low high = (((if low then 0x06 else 0) ||| (if high then 0x60 else 0) : Nat) : Int) := by
  cases low <;> cases high <;> rfl

theorem daaCorrection_eq_toNat (low high : Bool) : daaCorrection low high = 0x06 * low.toNat + 0x60 * high.toNat := by
  cases low <;> cases high <;> rfl

theorem daa_toNat (old : Flags) (v : Byte) :
    ((daa old v).1.toNat : Int) =
      (if old.n then v.toNat - daaCorrection (daaLow old v) (daaHigh old v)
        else v.toNat + daaCorrection (daaLow old v) (daaHigh old v)) % 256 := by
  rw [daaCorrection_eq_or]
  cases hn : old.n
  case false => simp [daa, hn, daaLow, daaHigh]
  case true =>
    simp only [daa, hn, if_true, BitVec.toNat_ofInt, daaLow, daaHigh]
    exact Int.toNat_of_nonneg (Int.emod_nonneg _ (by decide))

theorem daa_c (old : Flags) (v : Byte) : (daa old v).2.c = daaHigh old v := rfl

/-! ### Packed decimal -/

/-- Both digits of a byte are decimal. -/
def IsBcd (b : Byte) : Prop := b.toNat % 16 ≤ 9 ∧ b.toNat / 16 ≤ 9

/-- The number a packed decimal byte stands for. -/
def bcdNumber (b : Byte) : Nat := 10 * (b.toNat / 16) + b.toNat % 16

/-- The two values of a test read as a number, each with what it says. -/
theorem toNat_decide_cases (p : Prop) [Decidable p] : p ∧ (decide p).toNat = 1 ∨ ¬p ∧ (decide p).toNat = 0 := by
  by_cases h : p
  case pos => exact .inl ⟨h, congrArg Bool.toNat (decide_eq_true h)⟩
  case neg => exact .inr ⟨h, congrArg Bool.toNat (decide_eq_false h)⟩

/-- After an ADD of packed decimal bytes DAA corrects the low digit where the two low digits carry in decimal, by a carry out
of bit 3 or by a digit above 9. -/
theorem daaLow_add8 {a v : Byte} (ha : IsBcd a) (hv : IsBcd v) :
    daaLow (add8 a v false).2 (add8 a v false).1 = decide (9 < a.toNat % 16 + v.toNat % 16) := by
  obtain ⟨_, _⟩ := ha
  obtain ⟨_, _⟩ := hv
  rw [daaLow, add8_toNat]
  simp only [add8, ← Bool.decide_or, decide_eq_decide, Bool.toNat_false]
  omega

theorem daaHigh_add8 (a v : Byte) :
    daaHigh (add8 a v false).2 (add8 a v false).1 = decide (0x99 < a.toNat + v.toNat) := by
  have := a.isLt
  have := v.isLt
  rw [daaHigh, add8_toNat]
  simp only [add8, ← Bool.decide_or, decide_eq_decide, Bool.toNat_false]
  omega

/-- DAA after ADD (R700). -/
theorem daa_add8_decimal {a v : Byte} (ha : IsBcd a) (hv : IsBcd v) :
    let t := daa (add8 a v false).2 (add8 a v false).1
    IsBcd t.1 ∧ bcdNumber t.1 + 100 * t.2.c.toNat = bcdNumber a + bcdNumber v := by
  have r := daa_toNat (add8 a v false).2 (add8 a v false).1
  rw [if_neg (by simp [add8]), daaLow_add8 ha hv, daaHigh_add8, add8_toNat, daaCorrection_eq_toNat] at r
  have ⟨_, _⟩ := ha
  have ⟨_, _⟩ := hv
  have low := toNat_decide_cases (9 < a.toNat % 16 + v.toNat % 16)
  have high := toNat_decide_cases (0x99 < a.toNat + v.toNat)
  dsimp only
  rw [daa_c, daaHigh_add8]
  simp only [Bool.toNat_false, IsBcd, bcdNumber] at r ⊢
  omega

/-- After a SUB of packed decimal bytes DAA corrects the low digit where the low digits borrow. -/
theorem daaLow_sub8 {a v : Byte} (ha : IsBcd a) :
    daaLow (sub8 a v false).2 (sub8 a v false).1 = decide (a.toNat % 16 < v.toNat % 16) := by
  obtain ⟨_, _⟩ := ha
  have r := sub8_toNat a v false
  rw [daaLow, sub8_h, ← Bool.decide_or, decide_eq_decide]
  simp only [Bool.toNat_false] at r ⊢
  omega

theorem daaHigh_sub8 {a v : Byte} (ha : IsBcd a) :
    daaHigh (sub8 a v false).2 (sub8 a v false).1 = decide (a.toNat < v.toNat) := by
  obtain ⟨_, _⟩ := ha
  have r := sub8_toNat a v false
  rw [daaHigh, sub8_c_false, ← Bool.decide_or, decide_eq_decide]
  simp only [Bool.toNat_false] at r
  omega

/-- DAA after SUB (R700). -/
theorem daa_sub8_decimal {a v : Byte} (ha : IsBcd a) (hv : IsBcd v) :
    let t := daa (sub8 a v false).2 (sub8 a v false).1
    IsBcd t.1 ∧ bcdNumber t.1 + bcdNumber v = bcdNumber a + 100 * t.2.c.toNat := by
  have r := daa_toNat (sub8 a v false).2 (sub8 a v false).1
  rw [if_pos (by simp [sub8]), daaLow_sub8 ha, daaHigh_sub8 ha, sub8_toNat, daaCorrection_eq_toNat] at r
  have ⟨_, _⟩ := ha
  have ⟨_, _⟩ := hv
  have low := toNat_decide_cases (a.toNat % 16 < v.toNat % 16)
  have high := toNat_decide_cases (a.toNat < v.toNat)
  dsimp only
  rw [daa_c, daaHigh_sub8 ha]
  simp only [Bool.toNat_false, IsBcd, bcdNumber] at r ⊢
  omega

/-! ## The accumulator and flag instructions -/

theorem exec_daa (s : State) : exec .daa s = .next (((s.opening .u1).setAcc (daa s.flags s.cpu.a)).closing .u1) := rfl

theorem exec_cpl (s : State) : exec .cpl s = .next (((s.opening .u1).setAcc (cpl s.flags s.cpu.a)).closing .u1) := rfl

theorem exec_neg (s : State) : exec .neg s = .next (((s.opening .ed2).setAcc (sub8 0 s.cpu.a false)).closing .ed2) := rfl

/-- An instruction that writes the flags, and nothing else. -/
theorem completes_setFlags {i : Instr} {s : State} {fm : Format} {fl : Flags}
    (hx : exec i s = .next (((s.opening fm).setFlags fl).closing fm)) :
    Completes i s fun t => t.flags = fl ∧ Frame [.f] [] s t ∧ Finishes fm s t :=
  ⟨_, hx, State.flags_setFlags (s.opening fm) fl, ((Touches.self _).setFlags fl).finishes⟩

/-- Settles O18: three of the operations are a change of `A` with its flags, and two a write of the flags alone. -/
theorem accumulatorAndFlagOperations : Obligations.AccumulatorAndFlagOperations := by
  intro s
  refine ⟨?daa, ?cpl, ?neg, completes_setFlags rfl, completes_setFlags rfl⟩
  case daa =>
    refine (completes_setAcc (exec_daa s)).mono fun t ⟨ha, hf, hframe⟩ => ?_
    rw [ha, hf]
    exact ⟨daa_toNat _ _, szyx_of_bits rfl rfl rfl rfl, rfl, parity_eq_even_ones _, rfl, rfl, hframe⟩
  case cpl =>
    refine (completes_setAcc (exec_cpl s)).mono fun t ⟨ha, hf, hframe⟩ => ?_
    rw [ha, hf]
    exact ⟨cpl_toNat _ _, rfl, hframe⟩
  case neg =>
    refine (completes_setAcc (exec_neg s)).mono fun t ⟨ha, hf, hframe⟩ => ?_
    rw [ha, hf]
    exact ⟨neg_toNat _, szyx_of_bits rfl rfl rfl rfl, neg_h _, neg_pv _, rfl, neg_c _, hframe⟩

/-- DAA after an instruction that has put `v` in `A` and `F` corrects that result. -/
theorem completes_setAcc_daa {i : Instr} {s : State} {fm : Format} {v : Byte × Flags}
    (hx : exec i s = .next (((s.opening fm).setAcc v).closing fm)) :
    Completes i s fun u => Completes .daa u fun t => t.cpu.a = (daa v.2 v.1).1 ∧ t.flags = (daa v.2 v.1).2 := by
  refine (completes_setAcc hx).mono fun u ⟨ha, hf, _⟩ => ?_
  rw [← ha, ← hf]
  exact (completes_setAcc (exec_daa u)).mono fun t ⟨ha, hf, _⟩ => ⟨ha, hf⟩

/-- Settles O19: by the decimal facts of DAA on the result of `Add8` and of `Sub8`. -/
theorem daaCorrectsDecimal : Obligations.DaaCorrectsDecimal := by
  intro s v bcd number ha hv
  have add : exec (.addN v) s = .next (((s.opening .u2n).setAcc (add8 s.cpu.a v false)).closing .u2n) := rfl
  have sub : exec (.subN v) s = .next (((s.opening .u2n).setAcc (sub8 s.cpu.a v false)).closing .u2n) := rfl
  refine ⟨?sum, ?difference⟩
  case sum =>
    refine (completes_setAcc_daa add).mono fun u hu => hu.mono fun t ⟨a, f⟩ => ?_
    rw [a, f]
    exact daa_add8_decimal ha hv
  case difference =>
    refine (completes_setAcc_daa sub).mono fun u hu => hu.mono fun t ⟨a, f⟩ => ?_
    rw [a, f]
    exact daa_sub8_decimal ha hv

/-! ## The interrupt latches (R113 to R116) -/

theorem loc_setIff_ne (s : State) {l : Loc} (b1 b2 : Bool) (h1 : l ≠ .iff1) (h2 : l ≠ .iff2) :
    (s.setIff b1 b2).loc l = s.loc l := by
  cases l with
  | reg q => cases q <;> rfl
  | iff1 => exact absurd rfl h1
  | iff2 => exact absurd rfl h2
  | _ => rfl

theorem loc_setIm_ne (s : State) {l : Loc} (m : IntMode) (h : l ≠ .im) : (s.setIm m).loc l = s.loc l := by
  cases l with
  | reg q => cases q <;> rfl
  | im => exact absurd rfl h
  | _ => rfl

theorem loc_setHalt_ne (s : State) {l : Loc} (b : Bool) (h : l ≠ .halt) : (s.setHalt b).loc l = s.loc l := by
  cases l with
  | reg q => cases q <;> rfl
  | halt => exact absurd rfl h
  | _ => rfl

namespace Touches

variable {ch : List Loc} {st : List Word} {s t : State}

theorem setIff (h : Touches ch st s t) (b1 b2 : Bool) (h1 : .iff1 ∈ ch := by simp) (h2 : .iff2 ∈ ch := by simp) :
    Touches ch st s (t.setIff b1 b2) :=
  h.withCpu (fun _ hn => loc_setIff_ne t b1 b2 (ne_of_mem_of_not_mem h1 hn).symm (ne_of_mem_of_not_mem h2 hn).symm)
    rfl rfl rfl

theorem setIm (h : Touches ch st s t) (m : IntMode) (hm : .im ∈ ch := by simp) : Touches ch st s (t.setIm m) :=
  h.withCpu (fun _ hn => loc_setIm_ne t m (ne_of_mem_of_not_mem hm hn).symm) rfl rfl rfl

theorem setHalt (h : Touches ch st s t) (b : Bool) (hh : .halt ∈ ch := by simp) : Touches ch st s (t.setHalt b) :=
  h.withCpu (fun _ hn => loc_setHalt_ne t b (ne_of_mem_of_not_mem hh hn).symm) rfl rfl rfl

end Touches

/-- A frame leaves `EI_DELAY` open (R116). -/
theorem Frame.setEiDelay {ch : List Loc} {st : List Word} {s t : State} (h : Frame ch st s t) (b : Bool) :
    Frame ch st s (t.setEiDelay b) :=
  { h with regs := fun l hn => (loc_withStepRegisters t t.cpu.pc t.cpu.r b l).trans (h.regs l hn) }

/-- The opening of an instruction writes no place (R116, R117). -/
theorem frame_opening (s : State) (fm : Format) : Frame [] [] s (s.opening fm) :=
  ⟨fun l _ => loc_opening s fm l, fun _ _ => rfl, rfl, rfl, rfl⟩

/-- Settles O20: each instruction writes the latches it names, and EI then sets `EI_DELAY`. -/
theorem cpuControl : Obligations.CpuControl := by
  intro s
  refine ⟨?nop, ?di, ?ei, ?im⟩
  case nop => exact ⟨_, rfl, (Touches.self (s.opening .u1)).finishes⟩
  case di =>
    have hx : exec .di s = .next (((s.opening .u1).setIff false false).closing .u1) := rfl
    exact ⟨_, hx, rfl, rfl, ((Touches.self _).setIff _ _).finishes⟩
  case ei =>
    have hx : exec .ei s = .next ((((s.opening .u1).setIff true true).closing .u1).setEiDelay true) := rfl
    have touches := (Touches.self (ch := [.iff1, .iff2]) (st := []) (s.opening .u1)).setIff true true
    obtain ⟨frame, host, ends⟩ := touches.finishes
    exact ⟨_, hx, rfl, rfl, rfl, ends.pc, ends.refresh, host, frame.setEiDelay true⟩
  case im =>
    rintro ⟨i, m⟩ hp
    have hx : exec i s = .next (((s.opening .ed2).setIm m).closing .ed2) := by
      simp only [List.mem_cons, List.not_mem_nil, or_false] at hp
      rcases hp with e | e | e <;> cases e <;> rfl
    exact ⟨_, hx, rfl, ((Touches.self _).setIm _).finishes⟩

/-! ## HALT and the halted idle step (R706, R1507) -/

theorem exec_halt_enabled {s : State} (h : s.cpu.iff1 = true) :
    exec .halt s = .next (((s.opening .u1).setHalt true).closing .u1) := if_pos h

theorem exec_halt_disabled {s : State} (h : s.cpu.iff1 = false) :
    exec .halt s = .next (s.setStatus (.faulted (.haltWithInterruptsDisabled s.cpu.pc s.pcBytes))) :=
  if_neg (by simp [h])

/-- A halted machine with no interrupt to accept idles, whatever stands at `PC` (R1507): it does what an instruction of one
M1 cycle does before its effect. -/
theorem step_halted {s : State} (hr : s.status = .running) (hh : s.cpu.halt = true) (hn : s.nmiPending = false)
    (hi : s.intRequest = none) : step s = .next (s.opening .u1) := by
  have idle : nextEvent s = .idle := by simp [nextEvent, hn, hi, hh]
  rw [step_running hr, loopStep, idle]
  rfl

/-- Settles O21: HALT is one write of its latch or a fault by `IFF1`, and the idle step is the opening of an instruction
with no effect. -/
theorem haltStopsOrIdles : Obligations.HaltStopsOrIdles := by
  intro s
  refine ⟨fun h => ?latch, fun h => ?fault, fun hr hh hn hi => ?idle⟩
  case latch => exact ⟨_, exec_halt_enabled h, rfl, ((Touches.self _).setHalt _).finishes⟩
  case fault =>
    rw [← pcBytes_eq]
    exact ⟨_, exec_halt_disabled h, ⟨rfl, rfl, rfl, rfl, rfl⟩, rfl⟩
  case idle =>
    exact ⟨s.opening .u1, step_halted hr hh hn hi, rfl, rfl, rfl, rfl, frame_opening s .u1⟩

end Sys2Proof.Machine

/-! SUPPORT. O22 to O24: the 16-bit results and flags as numbers, and a word written back to `HL` or an index register
with its flags (44_alu16.md R800 to R821). -/

namespace Sys2Proof.Machine

/-! ## The results and flags of the operations (R820, R821) -/

theorem word_getLsbD_fifteen (v : Word) : v.getLsbD 15 = decide (32768 ≤ v.toNat) := BitVec.msb_eq_decide v

theorem add16_toNat (old : Flags) (a b : Word) : (add16 old a b).1.toNat = (a.toNat + b.toNat) % 65536 :=
  BitVec.toNat_ofNat _ _

theorem adc16_toNat (a b : Word) (c : Bool) : (adc16 a b c).1.toNat = (a.toNat + b.toNat + c.toNat) % 65536 :=
  BitVec.toNat_ofNat _ _

theorem adc16_pv (a b : Word) (c : Bool) :
    (adc16 a b c).2.pv = overflows 16 (a.toInt + b.toInt + c.toNat) := addOverflow_eq_overflows (by decide) a b c

theorem sbc16_toNat (a b : Word) (c : Bool) :
    ((sbc16 a b c).1.toNat : Int) = ((a.toNat : Int) - b.toNat - c.toNat) % 65536 :=
  (congrArg Nat.cast (BitVec.toNat_ofInt _)).trans (Int.toNat_of_nonneg (Int.emod_nonneg _ (by decide)))

/-- H is the borrow into bit 12 (R821). -/
theorem sbc16_h (a b : Word) (c : Bool) :
    (sbc16 a b c).2.h = decide (a.toNat % 4096 < b.toNat % 4096 + c.toNat) := by
  apply decide_eq_decide.mpr
  omega

theorem sbc16_pv (a b : Word) (c : Bool) :
    (sbc16 a b c).2.pv = overflows 16 (a.toInt - b.toInt - c.toNat) := subOverflow_eq_overflows (by decide) a b c

/-- C is the borrow out of bit 15 (R821). -/
theorem sbc16_c (a b : Word) (c : Bool) : (sbc16 a b c).2.c = decide (a.toNat < b.toNat + c.toNat) := by
  apply decide_eq_decide.mpr
  omega

/-! ## A step of a word (R804 to R807) -/

theorem word_add_one_toNat (v : Word) : ((v + 1).toNat : Int) = (v.toNat + 1) % 65536 :=
  congrArg Nat.cast (BitVec.toNat_add v 1)

theorem word_sub_one_toNat (v : Word) : ((v - 1).toNat : Int) = (v.toNat + -1) % 65536 := by
  have below : (v - 1).toNat = (65535 + v.toNat) % 65536 := BitVec.toNat_sub v 1
  omega

/-! ## A word operand and a word written with its flags -/

@[simp] theorem State.pair_opening (s : State) (fm : Format) (p : Pair) : (s.opening fm).pair p = s.pair p := by
  cases p <;> rfl

@[simp] theorem State.pairX_opening (s : State) (fm : Format) (x : XY) (q : PairX) :
    (s.opening fm).pairX x q = s.pairX x q := by
  cases q
  case xy => exact xy_opening s fm x
  all_goals rfl

@[simp] theorem State.xy_setFlags (s : State) (fl : Flags) (x : XY) : (s.setFlags fl).xy x = s.xy x := by cases x <;> rfl

/-- `HL` and all the flags from the result of an operation. -/
def State.setHlFlags (s : State) (r : Word × Flags) : State := (s.setHl r.1).setFlags r.2

/-- An index register and all the flags from the result of an operation. -/
def State.setXyFlags (s : State) (x : XY) (r : Word × Flags) : State := (s.setXy x r.1).setFlags r.2

section

variable {i : Instr} {s : State} {fm : Format} {v : Word × Flags}

/-- An instruction that puts a result and its flags in `HL` and `F`, and nothing else. -/
theorem completes_setHlFlags (hx : exec i s = .next (((s.opening fm).setHlFlags v).closing fm)) :
    Completes i s fun t => t.hl = v.1 ∧ t.flags = v.2 ∧ Frame [.reg .h, .reg .l, .f] [] s t ∧ Finishes fm s t :=
  ⟨_, hx, cat_hi8_lo8 v.1, State.flags_setFlags ((s.opening fm).setHl v.1) v.2,
    (((Touches.self _).setPair .hl _ (by simp [pairLocs])).setFlags _).finishes⟩

/-- An instruction that puts a result and its flags in an index register and `F`, and nothing else. -/
theorem completes_setXyFlags {x : XY} (hx : exec i s = .next (((s.opening fm).setXyFlags x v).closing fm)) :
    Completes i s fun t => t.xy x = v.1 ∧ t.flags = v.2 ∧ Frame [xyLoc x, .f] [] s t ∧ Finishes fm s t :=
  ⟨_, hx, by simp [State.setXyFlags], State.flags_setFlags ((s.opening fm).setXy x v.1) v.2,
    (((Touches.self _).setXy _ _).setFlags _).finishes⟩

end

/-! ## The additions and subtractions: the operand is the same before and after the opening of an instruction -/

theorem exec_addHlSs (s : State) (p : Pair) :
    exec (.addHlSs p) s = .next (((s.opening .u1).setHlFlags (add16 s.flags s.hl (s.pair p))).closing .u1) := by
  rw [← State.pair_opening s .u1 p]
  rfl

theorem exec_addXyPp {i : Instr} {x : XY} {q : PairX} (hm : (i, x) ∈ [(Instr.addIxPp q, XY.ix), (.addIyPp q, .iy)])
    (s : State) :
    exec i s = .next (((s.opening .xy2).setXyFlags x (add16 s.flags (s.xy x) (s.pairX x q))).closing .xy2) := by
  rw [← State.pairX_opening s .xy2 x q]
  simp only [List.mem_cons, List.not_mem_nil, or_false] at hm
  rcases hm with e | e <;> cases e <;> rfl

theorem exec_adcHlSs (s : State) (p : Pair) :
    exec (.adcHlSs p) s = .next (((s.opening .ed2).setHlFlags (adc16 s.hl (s.pair p) s.flags.c)).closing .ed2) := by
  rw [← State.pair_opening s .ed2 p]
  rfl

theorem exec_sbcHlSs (s : State) (p : Pair) :
    exec (.sbcHlSs p) s = .next (((s.opening .ed2).setHlFlags (sbc16 s.hl (s.pair p) s.flags.c)).closing .ed2) := by
  rw [← State.pair_opening s .ed2 p]
  rfl

/-- Settles O22: every form is one `Add16` into its register, which keeps S, Z and P/V. -/
theorem wordAddition : Obligations.WordAddition := by
  intro s p q flagsOf
  refine ⟨?hl, ?index⟩
  case hl =>
    refine (completes_setHlFlags (exec_addHlSs s p)).mono fun t ⟨hv, hf, hframe⟩ => ?_
    rw [hv]
    exact ⟨add16_toNat _ _ _, hf, hframe⟩
  case index =>
    rintro ⟨i, x⟩ hm
    refine (completes_setXyFlags (exec_addXyPp hm s)).mono fun t ⟨hv, hf, hframe⟩ => ?_
    rw [hv]
    exact ⟨add16_toNat _ _ _, hf, hframe⟩

/-- Settles O23: ADC HL is one `Adc16` and SBC HL one `Sbc16` into `HL`, with the carry of `F`. -/
theorem wordAdditionWithCarry : Obligations.WordAdditionWithCarry := by
  intro s p a b c
  refine ⟨?sum, ?difference⟩
  case sum =>
    refine (completes_setHlFlags (exec_adcHlSs s p)).mono fun t ⟨hv, hf, hframe⟩ => ?_
    rw [hv, hf]
    exact ⟨adc16_toNat _ _ _, word_getLsbD_fifteen _, rfl, rfl, rfl, rfl, adc16_pv _ _ _, rfl, rfl, hframe⟩
  case difference =>
    refine (completes_setHlFlags (exec_sbcHlSs s p)).mono fun t ⟨hv, hf, hframe⟩ => ?_
    rw [hv, hf]
    exact ⟨sbc16_toNat _ _ _, word_getLsbD_fifteen _, rfl, rfl, rfl, sbc16_h _ _ _, sbc16_pv _ _ _, rfl,
      sbc16_c _ _ _, hframe⟩

/-- Settles O24: every form is one write of its register, with no write of `F`. -/
theorem wordIncrementKeepsFlags : Obligations.WordIncrementKeepsFlags := by
  intro s p
  refine ⟨?pairs, ?index⟩
  case pairs =>
    rintro ⟨i, delta⟩ hm
    have stepped : ∃ v : Word, exec i s = .next (((s.opening .u1).setPair p v).closing .u1) ∧
        (v.toNat : Int) = ((s.pair p).toNat + delta) % 65536 := by
      rw [← State.pair_opening s .u1 p]
      simp only [List.mem_cons, List.not_mem_nil, or_false] at hm
      rcases hm with e | e <;> cases e
      case inl => exact ⟨_, rfl, word_add_one_toNat _⟩
      case inr => exact ⟨_, rfl, word_sub_one_toNat _⟩
    obtain ⟨v, hx, hv⟩ := stepped
    exact ⟨_, hx, by simpa using hv, ((Touches.self _).setPair _ _ (List.Subset.refl _)).finishes⟩
  case index =>
    rintro ⟨i, x, delta⟩ hm
    have stepped : ∃ v : Word, exec i s = .next (((s.opening .xy2).setXy x v).closing .xy2) ∧
        (v.toNat : Int) = ((s.xy x).toNat + delta) % 65536 := by
      simp only [List.mem_cons, List.not_mem_nil, or_false] at hm
      rcases hm with e | e | e | e <;> cases e
      case inl | inr.inl => exact ⟨_, rfl, word_add_one_toNat _⟩
      case inr.inr.inl | inr.inr.inr => exact ⟨_, rfl, word_sub_one_toNat _⟩
    obtain ⟨v, hx, hv⟩ := stepped
    exact ⟨_, hx, by simpa using hv, ((Touches.self _).setXy _ _).finishes⟩

end Sys2Proof.Machine

/-! SUPPORT. O25 to O27: the rotates and shifts as one move of a byte with a bit coming in, the digit rotates as numbers, and
the operand forms of a CB-group operation said once for all eight (45_rotate_shift.md R900 to R941). -/

namespace Sys2Proof.Machine

/-! ## Bits and digits joined -/

/-- A byte with its low `k` bits clear and one below `2 ^ k` have no bit in common: their bitwise or is their sum. -/
theorem toNat_or_eq_add (k : Nat) {x y : Byte} (hx : 2 ^ k ∣ x.toNat) (hy : y.toNat < 2 ^ k) :
    (x ||| y).toNat = x.toNat + y.toNat := by
  obtain ⟨a, ha⟩ := hx
  rw [BitVec.toNat_or, ha, Nat.two_pow_add_eq_or_of_lt hy]

theorem bit_toNat (b : Bool) : (bit b).toNat = b.toNat := by cases b <;> rfl

theorem byte_shiftLeft_toNat (v : Byte) (k : Nat) : (v <<< k).toNat = v.toNat * 2 ^ k % 256 := by
  rw [BitVec.toNat_shiftLeft, Nat.shiftLeft_eq]

theorem byte_ushiftRight_toNat (v : Byte) (k : Nat) : (v >>> k).toNat = v.toNat / 2 ^ k := by
  rw [BitVec.toNat_ushiftRight, Nat.shiftRight_eq_div_pow]

/-! ## The eight operations as numbers (R905) -/

/-- A left move doubles modulo 256, with a bit coming in at the right. -/
theorem shiftLeft_or_bit_toNat (v : Byte) (b : Bool) :
    ((v <<< 1) ||| bit b).toNat = 2 * v.toNat % 256 + b.toNat := by
  have hb := Bool.toNat_lt b
  have left := byte_shiftLeft_toNat v 1
  rw [toNat_or_eq_add 1 (by omega) (by rw [bit_toNat]; exact hb), bit_toNat]
  omega

/-- A right move halves, with a bit coming in at the left. -/
theorem ushiftRight_or_bit_toNat (v : Byte) (b : Bool) :
    ((v >>> 1) ||| (bit b <<< 7)).toNat = v.toNat / 2 + 128 * b.toNat := by
  have hb := Bool.toNat_lt b
  have hv := v.isLt
  have right := byte_ushiftRight_toNat v 1
  have high := byte_shiftLeft_toNat (bit b) 7
  rw [bit_toNat] at high
  rw [BitVec.or_comm, toNat_or_eq_add 7 (by omega) (by omega)]
  omega

theorem byte_getLsbD_zero (v : Byte) : v.getLsbD 0 = decide (v.toNat % 2 = 1) := Nat.testBit_zero _

theorem toNat_getLsbD_zero (v : Byte) : (v.getLsbD 0).toNat = v.toNat % 2 :=
  (Nat.toNat_testBit v.toNat 0).trans (congrArg (· % 2) (Nat.div_one _))

theorem toNat_getLsbD_seven (v : Byte) : (v.getLsbD 7).toNat = v.toNat / 128 := by
  have hv := v.isLt
  rw [BitVec.getLsbD, Nat.toNat_testBit]
  omega

/-- SRA keeps bit 7: the bit coming in is the sign (R925). -/
theorem and_sign_eq_bit (v : Byte) : v &&& 0x80#8 = bit (v.getLsbD 7) <<< 7 := by
  have kept : v &&& 0x80#8 = v >>> 7 <<< 7 := (BitVec.shiftLeft_ushiftRight (x := v) (n := 7)).symm
  have sign : v >>> 7 = bit (v.getLsbD 7) := by
    rw [← BitVec.toNat_inj, bit_toNat, toNat_getLsbD_seven]
    exact byte_ushiftRight_toNat v 7
  rw [kept, sign]

theorem shiftBits_toNat (o : RotOp) (c : Bool) (v : Byte) : (shiftBits o c v).1.toNat = rotated o c v.toNat := by
  cases o <;> dsimp only [shiftBits, rotated]
  case rlc => rw [shiftLeft_or_bit_toNat, toNat_getLsbD_seven]
  case rl => rw [shiftLeft_or_bit_toNat]
  case sla => exact (byte_shiftLeft_toNat v 1).trans (congrArg (· % 256) (Nat.mul_comm _ _))
  case sll => exact shiftLeft_or_bit_toNat v true
  case rrc => rw [ushiftRight_or_bit_toNat, toNat_getLsbD_zero]
  case rr => rw [ushiftRight_or_bit_toNat]
  case sra => rw [and_sign_eq_bit, ushiftRight_or_bit_toNat, toNat_getLsbD_seven]
  case srl => exact byte_ushiftRight_toNat v 1

theorem shiftBits_out (o : RotOp) (c : Bool) (v : Byte) : (shiftBits o c v).2 = shiftedOut o v.toNat := by
  cases o
  case rlc | rl | sla | sll => exact byte_getLsbD_seven v
  case rrc | rr | sra | srl => exact byte_getLsbD_zero v

/-! ## The accumulator rotates (R900 to R903) -/

/-- Settles O25: every form is one `RotAcc` into `A`. -/
theorem accumulatorRotates : Obligations.AccumulatorRotates := by
  rintro s ⟨i, o⟩ hp
  have hx : exec i s = .next (((s.opening .u1).setAcc (rotAcc o s.flags s.cpu.a)).closing .u1) := by
    simp only [List.mem_cons, List.not_mem_nil, or_false] at hp
    rcases hp with e | e | e | e <;> cases e <;> rfl
  refine (completes_setAcc hx).mono fun t ⟨ha, hf, hframe⟩ => ?_
  rw [ha, hf, ← shiftBits_out o s.flags.c]
  exact ⟨shiftBits_toNat _ _ _, rfl, hframe⟩

/-! ## The CB group (R905, R906) -/

/-- `fl` are the flags of the operation `o` on `v` with the result `w` (R905). -/
def RotFlags (o : RotOp) (v w : Byte) (fl : Flags) : Prop :=
  SZYX w fl ∧ fl.h = false ∧ fl.pv = decide (ones w % 2 = 0) ∧ fl.n = false ∧ fl.c = shiftedOut o v.toNat

theorem rot_flags (o : RotOp) (c : Bool) (v : Byte) : RotFlags o v (rot o c v).1 (rot o c v).2 :=
  ⟨szyx_of_bits rfl rfl rfl rfl, rfl, parity_eq_even_ones _, rfl, shiftBits_out o c v⟩

/-- Each form of `k` is the change of its operand by the operation of `k`, under the carry before it (R906). -/
structure RotRows.Performs (k : RotRows) : Prop where
  r : ∀ r s, exec (k.r r) s = .next (((s.opening .cb2).onReg r (rot k.o s.flags.c)).closing .cb2)
  hl : ∀ s, exec k.hl s = .next (((s.opening .cb2).onMem s.hl (rot k.o s.flags.c)).closing .cb2)
  ixd : ∀ d s, exec (k.ixd d) s = .next (((s.opening .xycb4).onMem (s.ea .ix d) (rot k.o s.flags.c)).closing .xycb4)
  iyd : ∀ d s, exec (k.iyd d) s = .next (((s.opening .xycb4).onMem (s.ea .iy d) (rot k.o s.flags.c)).closing .xycb4)

theorem rotRows_perform {k : RotRows} (hk : k ∈ rotRows) : k.Performs := by
  simp only [rotRows, List.mem_cons, List.not_mem_nil, or_false] at hk
  rcases hk with rfl | rfl | rfl | rfl | rfl | rfl | rfl | rfl <;> constructor <;> intros <;> rfl

theorem RotRows.Performs.completes_reg {k : RotRows} (hk : k.Performs) (s : State) (r : Reg8) :
    Completes (k.r r) s fun t =>
      (t.reg r).toNat = rotated k.o s.flags.c (s.reg r).toNat ∧ RotFlags k.o (s.reg r) (t.reg r) t.flags ∧
      Frame [.reg r, .f] [] s t ∧ Finishes .cb2 s t := by
  refine (completes_onReg (hk.r r s)).mono fun t ⟨hv, hfl, hframe⟩ => ?_
  rw [hv, hfl]
  exact ⟨shiftBits_toNat _ _ _, rot_flags _ _ _, hframe⟩

theorem RotRows.Performs.completes_mem {k : RotRows} (hk : k.Performs) {s : State} (hw : s.mem.wf = true) (d : Byte) :
    ∀ m ∈ [(k.hl, Format.cb2, s.hl), (k.ixd d, .xycb4, s.ea .ix d), (k.iyd d, .xycb4, s.ea .iy d)],
      Completes m.1 s fun t =>
        (t.peek m.2.2).toNat = rotated k.o s.flags.c (s.peek m.2.2).toNat ∧
        RotFlags k.o (s.peek m.2.2) (t.peek m.2.2) t.flags ∧ Frame [.f] [m.2.2] s t ∧ Finishes m.2.1 s t := by
  rintro ⟨i, fm, a⟩ hm
  have hx : exec i s = .next (((s.opening fm).onMem a (rot k.o s.flags.c)).closing fm) := by
    simp only [List.mem_cons, List.not_mem_nil, or_false] at hm
    rcases hm with e | e | e <;> cases e
    case inl => exact hk.hl s
    case inr.inl => exact hk.ixd d s
    case inr.inr => exact hk.iyd d s
  refine (completes_onMem hw hx).mono fun t ⟨hv, hfl, hframe⟩ => ?_
  rw [hv, hfl]
  exact ⟨shiftBits_toNat _ _ _, rot_flags _ _ _, hframe⟩

/-- Settles O26: every form is one read, change and write of its byte, by `Rot` of its operation. -/
theorem rotatesAndShifts : Obligations.RotatesAndShifts := fun s r d hw _ hk =>
  ⟨(rotRows_perform hk).completes_reg s r, (rotRows_perform hk).completes_mem hw d⟩

/-! ## The digit rotates (R940, R941) -/

theorem and_high_digit_toNat (v : Byte) : (v &&& 0xF0#8).toNat = 16 * (v.toNat / 16) := by
  have hv := v.isLt
  have kept : v &&& 0xF0#8 = v >>> 4 <<< 4 := (BitVec.shiftLeft_ushiftRight (x := v) (n := 4)).symm
  rw [kept, byte_shiftLeft_toNat, byte_ushiftRight_toNat]
  omega

theorem and_low_digit_toNat (v : Byte) : (v &&& 0x0F#8).toNat = v.toNat % 16 := by
  rw [BitVec.toNat_and]
  exact Nat.and_two_pow_sub_one_eq_mod _ 4

/-- A digit moved to the high place. -/
theorem shiftLeft_four_toNat (v : Byte) : (v <<< 4).toNat = 16 * (v.toNat % 16) := by
  rw [byte_shiftLeft_toNat]
  omega

/-- A digit moved to the low place. -/
theorem ushiftRight_four_toNat (v : Byte) : (v >>> 4).toNat = v.toNat / 16 := byte_ushiftRight_toNat v 4

/-- A byte joined of a high digit and a low digit. -/
theorem digits_toNat {x y : Byte} {p q : Nat} (hx : x.toNat = 16 * p) (hy : y.toNat = q) (hq : q < 16) :
    (x ||| y).toNat = 16 * p + q := by
  rw [toNat_or_eq_add 4 (hx ▸ Nat.dvd_mul_right 16 p) (hy ▸ hq), hx, hy]

theorem rldDigits_toNat (a m : Byte) :
    (rldDigits a m).1.toNat = 16 * (a.toNat / 16) + m.toNat / 16 ∧
    (rldDigits a m).2.toNat = 16 * (m.toNat % 16) + a.toNat % 16 :=
  ⟨digits_toNat (and_high_digit_toNat a) (ushiftRight_four_toNat m) (Nat.div_lt_of_lt_mul m.isLt),
    digits_toNat (shiftLeft_four_toNat m) (and_low_digit_toNat a) (Nat.mod_lt _ (by decide))⟩

theorem rrdDigits_toNat (a m : Byte) :
    (rrdDigits a m).1.toNat = 16 * (a.toNat / 16) + m.toNat % 16 ∧
    (rrdDigits a m).2.toNat = 16 * (a.toNat % 16) + m.toNat / 16 :=
  ⟨digits_toNat (and_high_digit_toNat a) (and_low_digit_toNat m) (Nat.mod_lt _ (by decide)),
    digits_toNat (shiftLeft_four_toNat a) (ushiftRight_four_toNat m) (Nat.div_lt_of_lt_mul m.isLt)⟩

theorem rotateDigits_touches (s : State) (v : Byte × Byte) : Touches [.reg .a, .f] [s.hl] s (rotateDigits v s) :=
  (((Touches.self s).poke _ _).setA _).setFlags _

/-- An instruction that puts one byte in `A`, with its flags, and one at `HL`, and nothing else. -/
theorem completes_rotateDigits {i : Instr} {s : State} {v : Byte × Byte} (hw : s.mem.wf = true)
    (hx : exec i s = .next ((rotateDigits v (s.opening .ed2)).closing .ed2)) :
    Completes i s fun t => t.cpu.a = v.1 ∧ t.peek s.hl = v.2 ∧ t.flags = signZeroParity s.flags v.1 ∧
      Frame [.reg .a, .f] [s.hl] s t ∧ Finishes .ed2 s t :=
  ⟨_, hx, rfl, Memory.read_write hw _ _, State.flags_setFlags (((s.opening .ed2).poke s.hl v.2).setA v.1) _,
    (rotateDigits_touches (s.opening .ed2) v).finishes⟩

/-- Settles O27: each form is one rotate of the digits of `A` and the byte at `HL`. -/
theorem digitRotates : Obligations.DigitRotates := by
  rintro s hw a m ⟨i, low, stored⟩ hp
  have moved : ∃ v : Byte × Byte, exec i s = .next ((rotateDigits v (s.opening .ed2)).closing .ed2) ∧
      v.1.toNat = 16 * (a / 16) + low ∧ v.2.toNat = stored := by
    simp only [List.mem_cons, List.not_mem_nil, or_false] at hp
    rcases hp with e | e <;> cases e
    case inl => exact ⟨_, rfl, rldDigits_toNat s.cpu.a (s.peek s.hl)⟩
    case inr => exact ⟨_, rfl, rrdDigits_toNat s.cpu.a (s.peek s.hl)⟩
  obtain ⟨v, hx, ha, hm⟩ := moved
  refine (completes_rotateDigits hw hx).mono fun t ⟨hta, htm, hf, hframe⟩ => ?_
  rw [hta, htm, hf]
  exact ⟨ha, hm, szyx_of_bits rfl rfl rfl rfl, rfl, parity_eq_even_ones _, rfl, rfl, hframe⟩

end Sys2Proof.Machine

/-! SUPPORT. O28, O29: the flags of a bit test and the draw of its `(HL)` form, and a byte with one bit written (46_bit.md R1000
to R1009). -/

namespace Sys2Proof.Machine

/-! ## Bit tests (R1000 to R1003) -/

/-- `fl` are the flags of BIT `b` on the byte `v`, `old` those before, but for X and Y, whose source depends on the form
(R1000). -/
def TestFlags (b : Fin 8) (v : Byte) (old fl : Flags) : Prop :=
  fl.z = (!v.getLsbD b.val) ∧ fl.pv = (!v.getLsbD b.val) ∧ fl.s = (decide (b = 7) && v.getLsbD 7) ∧ fl.h = true ∧
    fl.n = false ∧ fl.c = old.c

/-- S is the bit tested where that is bit 7, and clear elsewhere (R1000). -/
theorem bitTest_s (old : Flags) (b : Fin 8) (v xysrc : Byte) :
    (bitTest old b v xysrc).s = (decide (b = 7) && v.getLsbD 7) := by
  have hs : (bitTest old b v xysrc).s = (b == 7 && !!v.getLsbD b.val) := rfl
  rw [hs, Bool.not_not, Bool.beq_eq_decide_eq]
  by_cases hb : b = 7
  case pos =>
    subst hb
    rfl
  case neg => rw [decide_eq_false hb, Bool.false_and, Bool.false_and]

theorem bitTest_testFlags (old : Flags) (b : Fin 8) (v xysrc : Byte) : TestFlags b v old (bitTest old b v xysrc) :=
  ⟨rfl, rfl, bitTest_s old b v xysrc, rfl, rfl, rfl⟩

/-- Taking a draw changes the host alone (log 11). -/
theorem Frame.afterDraw {ch : List Loc} {st : List Word} {s t : State} (h : Frame ch st s t) : Frame ch st s t.afterDraw :=
  { h with regs := h.regs }

theorem EndsAt.afterDraw {fm : Format} {target : Word} {s t : State} (h : EndsAt fm target s t) :
    EndsAt fm target s t.afterDraw := ⟨h.pc, h.refresh, h.eiDelay⟩

/-- An instruction that writes the flags and takes a draw, and nothing else. -/
theorem completes_setFlags_afterDraw {i : Instr} {s : State} {fm : Format} {fl : Flags}
    (hx : exec i s = .next (((s.opening fm).setFlags fl).closing fm).afterDraw) :
    Completes i s fun t => t.flags = fl ∧ t.host = { s.host with draws := s.host.draws + 1 } ∧ Frame [.f] [] s t ∧
      EndsAt fm (s.after fm) s t := by
  obtain ⟨hframe, -, hends⟩ := ((Touches.self (s.opening fm)).setFlags fl (ch := [.f]) (st := [])).finishes
  exact ⟨_, hx, State.flags_setFlags (s.opening fm) fl, rfl, hframe.afterDraw, hends.afterDraw⟩

/-- Settles O28: every form writes the flags of one `BitTest`, and that of `(HL)` takes the draw for X and Y. -/
theorem bitTests : Obligations.BitTests := by
  intro s b r d
  refine ⟨?known, ?drawn⟩
  case known =>
    rintro ⟨i, fm, v, xysrc⟩ hp
    have hx : exec i s = .next (((s.opening fm).setFlags (bitTest s.flags b v xysrc)).closing fm) := by
      simp only [List.mem_cons, List.not_mem_nil, or_false] at hp
      rcases hp with e | e | e <;> cases e <;> rfl
    refine (completes_setFlags hx).mono fun t ⟨hf, hframe⟩ => ?_
    dsimp only
    rw [hf]
    exact ⟨bitTest_testFlags _ _ _ _, rfl, rfl, hframe⟩
  case drawn =>
    have hx : exec (.bitBHl b) s =
      .next (((s.opening .cb2).setFlags (bitTest s.flags b (s.peek s.hl) s.drawn)).closing .cb2).afterDraw := rfl
    refine (completes_setFlags_afterDraw hx).mono fun t ⟨hf, hrest⟩ => ?_
    dsimp only
    rw [hf]
    exact ⟨bitTest_testFlags _ _ _ _, hrest⟩

/-! ## One bit written (R1004 to R1009) -/

theorem getLsbD_bitMask (b : Fin 8) (k : Nat) : (bitMask b).getLsbD k = decide (k = b.val) := by
  have hm : bitMask b = BitVec.twoPow 8 b.val := rfl
  rw [hm, BitVec.getLsbD_twoPow, decide_eq_true b.isLt, Bool.true_and]
  exact decide_eq_decide.mpr eq_comm

/-- The byte `v` with `x` in its bit `b`: what SET writes where `x` is true (R1004), and RES where it is false (R1007). -/
def writeBit (b : Fin 8) (x : Bool) (v : Byte) : Byte := if x then v ||| bitMask b else v &&& ~~~bitMask b

/-- The bit `b` is the one written, and every other bit is that of `v`. -/
theorem getLsbD_writeBit (b : Fin 8) (x : Bool) (v : Byte) {k : Nat} (hk : k < 8) :
    (writeBit b x v).getLsbD k = if k = b.val then x else v.getLsbD k := by
  have mask := getLsbD_bitMask b k
  cases x <;> dsimp only [writeBit]
  case true =>
    rw [if_pos rfl, BitVec.getLsbD_or, mask]
    by_cases h : k = b.val
    · rw [decide_eq_true h, if_pos h, Bool.or_true]
    · rw [decide_eq_false h, if_neg h, Bool.or_false]
  case false =>
    rw [if_neg nofun, BitVec.getLsbD_and, BitVec.getLsbD_not, mask, decide_eq_true hk, Bool.true_and]
    by_cases h : k = b.val
    · rw [decide_eq_true h, if_pos h, Bool.not_true, Bool.and_false]
    · rw [decide_eq_false h, if_neg h, Bool.not_false, Bool.and_true]

/-- An instruction that writes a register, and nothing else. -/
theorem completes_setReg {i : Instr} {s : State} {fm : Format} {r : Reg8} {v : Byte}
    (hx : exec i s = .next (((s.opening fm).setReg r v).closing fm)) :
    Completes i s fun t => t.reg r = v ∧ Frame [.reg r] [] s t ∧ Finishes fm s t :=
  ⟨_, hx, by rw [State.reg_closing, State.reg_setReg], ((Touches.self _).setReg _ _).finishes⟩

/-- An instruction that writes a byte of memory, and nothing else. -/
theorem completes_poke {i : Instr} {s : State} {fm : Format} {a : Word} {v : Byte} (hw : s.mem.wf = true)
    (hx : exec i s = .next (((s.opening fm).poke a v).closing fm)) :
    Completes i s fun t => t.peek a = v ∧ Frame [] [a] s t ∧ Finishes fm s t :=
  ⟨_, hx, Memory.read_write hw _ _, ((Touches.self _).poke _ _).finishes⟩

/-- Settles O29: every form is one write of its byte with the bit set or clear, with no write of `F`. -/
theorem setAndReset : Obligations.SetAndReset := by
  rintro s b r d hw ⟨onReg, onHl, onIx, onIy, x⟩ hp
  simp only [List.mem_cons, List.not_mem_nil, or_false] at hp
  refine ⟨?register, ?memory⟩
  case register =>
    have hx : exec onReg s = .next (((s.opening .cb2).setReg r (writeBit b x (s.reg r))).closing .cb2) := by
      rcases hp with e | e <;> cases e <;> rfl
    refine (completes_setReg hx).mono fun t ⟨hv, hframe⟩ => ?_
    rw [hv]
    exact ⟨fun _ hk => getLsbD_writeBit b x _ hk, hframe⟩
  case memory =>
    rintro ⟨i, fm, a⟩ hm
    have hx : exec i s = .next (((s.opening fm).poke a (writeBit b x (s.peek a))).closing fm) := by
      simp only [List.mem_cons, List.not_mem_nil, or_false] at hm
      rcases hp with e | e <;> cases e
      all_goals rcases hm with e | e | e <;> cases e <;> rfl
    refine (completes_poke hw hx).mono fun t ⟨hv, hframe⟩ => ?_
    rw [hv]
    exact ⟨fun _ hk => getLsbD_writeBit b x _ hk, hframe⟩

end Sys2Proof.Machine

/-! SUPPORT. O30 to O32: the effect of a transfer of control, which ends with a write of `PC`: jumps, calls and returns
(47_jump_call_return.md R1100 to R1114). -/

namespace Sys2Proof.Machine

/-! ## Transfers of control -/

/-- What `Touches.finishes` says of an effect that the move to `PCn` ends, of one that a write of `PC` ends (R309). -/
theorem Touches.endsAt {ch : List Loc} {st : List Word} {s t : State} {fm : Format}
    (h : Touches ch st (s.opening fm) t) (target : Word) :
    Frame ch st s (t.setPc target) ∧ (t.setPc target).host = s.host ∧ EndsAt fm target s (t.setPc target) := by
  refine ⟨{ h with regs := fun l hl => ?_ }, h.host, rfl, h.refresh, h.eiDelay⟩
  have written : (t.setPc target).loc l = t.loc l := loc_withStepRegisters t target t.cpu.r t.cpu.eiDelay l
  rw [written, h.regs l hl, loc_opening]

/-! ## Jumps (R1100 to R1107) -/

/-- A relative target counts, signed, from the address after the two bytes of the jump (R1100). -/
theorem relTarget_eq_ofInt (s : State) (e : Byte) :
    s.relTarget e = BitVec.ofInt 16 (s.cpu.pc.toNat + 2 + signed8 e) := by
  rw [BitVec.ofInt_add, BitVec.ofInt_add, BitVec.ofInt_natCast, BitVec.ofNat_toNat, BitVec.setWidth_eq]
  rfl

/-- A conditional jump is a write of `PC` either way. -/
theorem jumpIf_eq_setPc (fm : Format) (taken : Bool) (target : Word) (s : State) :
    jumpIf fm taken target s = s.setPc (if taken then target else s.nextPc fm) := by cases taken <;> rfl

/-- An instruction that writes `PC`, and nothing else. -/
theorem completes_setPc {i : Instr} {s : State} {fm : Format} {target : Word}
    (hx : exec i s = .next ((s.opening fm).setPc target)) :
    Completes i s fun t => Frame [] [] s t ∧ t.host = s.host ∧ EndsAt fm target s t :=
  ⟨_, hx, (Touches.self _).endsAt target⟩

theorem completes_jumpIf {i : Instr} {s : State} {fm : Format} {taken : Bool} {target : Word}
    (hx : exec i s = .next (jumpIf fm taken target (s.opening fm))) :
    Completes i s fun t => Frame [] [] s t ∧ t.host = s.host ∧ EndsAt fm (if taken then target else s.after fm) s t :=
  completes_setPc (hx.trans (congrArg _ (jumpIf_eq_setPc ..)))

/-- DJNZ ends its loop where it counts `B` down from 1 (R1107). -/
theorem exec_djnzE (s : State) (e : Byte) :
    exec (.djnzE e) s = .next (((s.opening .u2e).setReg .b (s.cpu.b - 1)).setPc
      (if s.cpu.b = 1 then s.after .u2e else s.relTarget e)) := by
  have hx : exec (.djnzE e) s =
    .next (jumpIf .u2e (s.cpu.b - 1 != 0) (s.relTarget e) ((s.opening .u2e).setReg .b (s.cpu.b - 1))) := rfl
  rw [hx, jumpIf_eq_setPc, bne, sub_beq_zero]
  by_cases last : s.cpu.b = 1
  · rw [if_pos last, decide_eq_true last]
    rfl
  · rw [if_neg last, decide_eq_false last]
    rfl

/-- Settles O30: every jump is one write of `PC`, DJNZ after one of `B`. -/
theorem jumpsReachTheirTarget : Obligations.JumpsReachTheirTarget := by
  intro s cc jc nn e rel
  have hrel : s.relTarget e = rel := relTarget_eq_ofInt s e
  refine ⟨?conditions, ?relative, ?jumps, ?djnz⟩
  case conditions =>
    have set_bit (v : Bool) : v = (v == true) := (beq_true v).symm
    have clear_bit (v : Bool) : (!v) = (v == false) := (beq_false v).symm
    simp only [List.forall_mem_cons]
    exact ⟨⟨rfl, clear_bit _⟩, ⟨rfl, set_bit _⟩, ⟨rfl, clear_bit _⟩, ⟨rfl, set_bit _⟩, ⟨rfl, clear_bit _⟩,
      ⟨rfl, set_bit _⟩, ⟨rfl, clear_bit _⟩, ⟨rfl, set_bit _⟩, List.forall_mem_nil _⟩
  case relative =>
    simp only [List.forall_mem_cons]
    exact ⟨rfl, rfl, rfl, rfl, List.forall_mem_nil _⟩
  case jumps =>
    rw [← hrel]
    simp only [List.forall_mem_cons]
    exact ⟨completes_setPc rfl, completes_jumpIf rfl, completes_setPc rfl, completes_jumpIf rfl, completes_setPc rfl,
      completes_setPc rfl, completes_setPc rfl, List.forall_mem_nil _⟩
  case djnz =>
    rw [← hrel]
    exact ⟨_, exec_djnzE s e, rfl, ((Touches.self _).setReg .b _).endsAt _⟩

/-! ## Calls and restarts (R1108, R1109, R1114) -/

/-- An instruction that pushes the address after it and goes to `target`. -/
theorem completes_callTo {i : Instr} {s : State} {fm : Format} {target : Word} (hw : s.mem.wf = true)
    (hx : exec i s = .next (callTo fm target (s.opening fm))) :
    Completes i s fun t =>
      t.cpu.sp = s.cpu.sp - 2 ∧ cat (t.peek (s.cpu.sp - 1)) (t.peek (s.cpu.sp - 2)) = s.after fm ∧
      Frame [.sp] [s.cpu.sp - 1, s.cpu.sp - 2] s t ∧ t.host = s.host ∧ EndsAt fm target s t := by
  have high := peek_push16_high (s := s.opening fm) hw (s.after fm)
  have low := peek_push16_low (s := s.opening fm) hw (s.after fm)
  exact ⟨_, hx, pred_pred _, (congrArg₂ cat high low).trans (cat_hi8_lo8 _), ((Touches.self _).push16 _).endsAt target⟩

theorem exec_callCcNn_taken {s : State} {cc : Cond} (nn : Word) (h : condHolds s.flags cc = true) :
    exec (.callCcNn cc nn) s = .next (callTo .u3nn nn (s.opening .u3nn)) := congrArg _ (if_pos h)

theorem exec_callCcNn_not_taken {s : State} {cc : Cond} (nn : Word) (h : condHolds s.flags cc = false) :
    exec (.callCcNn cc nn) s = .next ((s.opening .u3nn).closing .u3nn) := congrArg _ (if_neg (Bool.eq_false_iff.mp h))

/-- Settles O31: a call taken and a restart are one push and a write of `PC`, and a call not taken has no effect. -/
theorem callsPushTheReturnAddress : Obligations.CallsPushTheReturnAddress := by
  intro s cc nn n hw
  refine ⟨?call, ?restart, fun h => ?taken, fun h => ?not_taken⟩
  case call => exact completes_callTo hw rfl
  case restart => exact completes_callTo hw rfl
  case taken => exact completes_callTo hw (exec_callCcNn_taken nn h)
  case not_taken => exact ⟨_, exec_callCcNn_not_taken nn h, (Touches.self _).finishes⟩

/-! ## Returns (R1110 to R1113) -/

/-- A pop of `PC` moves `SP` and then writes `PC` (R15). -/
theorem popPc_eq_setPc (s : State) : s.popPc = s.dropWord.setPc s.top16 := rfl

/-- An instruction that pops `PC`, and nothing else. -/
theorem completes_popPc {i : Instr} {s : State} {fm : Format} (hx : exec i s = .next (s.opening fm).popPc) :
    Completes i s fun t =>
      t.cpu.sp = s.cpu.sp + 2 ∧ Frame [.sp] [] s t ∧ t.host = s.host ∧ EndsAt fm s.top16 s t := by
  rw [popPc_eq_setPc] at hx
  exact ⟨_, hx, rfl, ((Touches.self (s.opening fm)).setSp _).endsAt _⟩

theorem exec_retCc_taken {s : State} {cc : Cond} (h : condHolds s.flags cc = true) :
    exec (.retCc cc) s = .next (s.opening .u1).popPc := congrArg _ (if_pos h)

theorem exec_retCc_not_taken {s : State} {cc : Cond} (h : condHolds s.flags cc = false) :
    exec (.retCc cc) s = .next ((s.opening .u1).closing .u1) := congrArg _ (if_neg (Bool.eq_false_iff.mp h))

theorem loc_setIff_iff1_ne (s : State) {l : Loc} (b : Bool) (h : l ≠ .iff1) :
    (s.setIff b s.cpu.iff2).loc l = s.loc l := by
  by_cases h2 : l = .iff2
  · rw [h2]
    rfl
  · exact loc_setIff_ne s b s.cpu.iff2 h h2

/-- A write of IFF1 alone (R113). -/
theorem Touches.setIff1 {ch : List Loc} {st : List Word} {s t : State} (h : Touches ch st s t) (b : Bool)
    (h1 : .iff1 ∈ ch := by simp) : Touches ch st s (t.setIff b t.cpu.iff2) :=
  h.withCpu (fun _ hn => loc_setIff_iff1_ne t b (ne_of_mem_of_not_mem h1 hn).symm) rfl rfl rfl

/-- The return from a handler: `SP` moves, IFF1 is written and then `PC` (R1112, R1113). -/
theorem returnFromHandler_eq_setPc (s : State) :
    returnFromHandler s = (s.dropWord.setIff s.cpu.iff2 s.dropWord.cpu.iff2).setPc s.top16 := rfl

/-- An instruction that pops `PC` and copies IFF2 into IFF1, and nothing else. -/
theorem completes_returnFromHandler {i : Instr} {s : State} {fm : Format}
    (hx : exec i s = .next (returnFromHandler (s.opening fm))) :
    Completes i s fun t =>
      t.cpu.sp = s.cpu.sp + 2 ∧ t.cpu.iff1 = s.cpu.iff2 ∧ Frame [.sp, .iff1] [] s t ∧ t.host = s.host ∧
      EndsAt fm s.top16 s t := by
  rw [returnFromHandler_eq_setPc] at hx
  exact ⟨_, hx, rfl, rfl, (((Touches.self (s.opening fm)).setSp _).setIff1 _).endsAt _⟩

/-- Settles O32: every return taken pops `PC`, RETI and RETN with a write of IFF1, and a RET not taken has no effect. -/
theorem returnsPopTheAddress : Obligations.ReturnsPopTheAddress := by
  intro s cc target
  refine ⟨?ret, ?conditional, ?handler⟩
  case ret => exact completes_popPc rfl
  case conditional =>
    cases h : condHolds s.flags cc
    case true =>
      simp only [if_true]
      exact completes_popPc (exec_retCc_taken h)
    case false =>
      simp only [Bool.false_eq_true, if_false]
      exact ⟨_, exec_retCc_not_taken h, (Touches.self _).finishes⟩
  case handler =>
    simp only [List.forall_mem_cons]
    exact ⟨completes_returnFromHandler rfl, completes_returnFromHandler rfl, List.forall_mem_nil _⟩

end Sys2Proof.Machine

/-! SUPPORT. O33, O34: an instruction that calls the host after its effect on the core, the answers held for a port, and one
iteration of a block input or output (48_io.md R1200 to R1213). -/

namespace Sys2Proof.Machine

/-! ## Calls of the host (R1200) -/

/-- A call of the host changes no component a frame speaks of (R1200). -/
theorem Frame.withHost {ch : List Loc} {st : List Word} {s t : State} (h : Frame ch st s t) (f : HostEnv → HostEnv) :
    Frame ch st s (t.withHost f) := { h with regs := h.regs }

/-- What `Touches.finishes` says of an effect on the core alone, of one that also calls the host. -/
theorem Touches.finishes_withHost {ch : List Loc} {st : List Word} {s t : State} {fm : Format}
    (h : Touches ch st (s.opening fm) t) (f : HostEnv → HostEnv) :
    Frame ch st s ((t.withHost f).closing fm) ∧ ((t.withHost f).closing fm).host = f s.host ∧
      EndsAt fm (s.after fm) s ((t.withHost f).closing fm) := by
  obtain ⟨frame, host, ends⟩ := h.finishes
  exact ⟨frame.withHost f, congrArg f h.host, ends.pc, ends.refresh, ends.eiDelay⟩

@[simp] theorem State.reg_withHost (s : State) (f : HostEnv → HostEnv) (r : Reg8) : (s.withHost f).reg r = s.reg r := by
  cases r <;> rfl

/-! ## Answers of ports (log 9) -/

theorem portRead_portLog (port : Word) (h : HostEnv) :
    (h.portRead port).2.portLog = h.portLog ++ [.read port (h.portRead port).1] := by
  obtain ⟨answers, draws, e⟩ := HostEnv.portRead_spec port h
  rw [e]

theorem answersPort_of_ne {port q : Word} {a : PortAnswer} (ha : a.port = some q) (hq : q ≠ port) :
    HostEnv.answersPort port a = false := by simp [HostEnv.answersPort, ha, hq]

theorem answersPort_of_match {port : Word} {a : PortAnswer} (ha : a.port = none ∨ a.port = some port) :
    HostEnv.answersPort port a = true := by
  rcases ha with ha | ha <;> simp [HostEnv.answersPort, ha]

/-- The first answer for a port is the one taken, and used up unless it stays. -/
theorem takeAnswer_first {port : Word} {others rest : List PortAnswer} {a : PortAnswer}
    (ho : ∀ o ∈ others, ∃ q, o.port = some q ∧ q ≠ port) (ha : a.port = none ∨ a.port = some port) :
    HostEnv.takeAnswer port (others ++ a :: rest) =
      (some a.value, if a.stays then others ++ a :: rest else others ++ rest) := by
  have skipped : ∀ o ∈ others, HostEnv.answersPort port o = false := by
    intro o hm
    obtain ⟨q, hp, hq⟩ := ho o hm
    exact answersPort_of_ne hp hq
  rw [HostEnv.takeAnswer_skip skipped, HostEnv.takeAnswer, if_pos (answersPort_of_match ha)]
  cases a.stays <;> rfl

theorem portRead_of_takeAnswer {port : Word} {h : HostEnv} {v : Byte} {rest : List PortAnswer}
    (e : HostEnv.takeAnswer port h.portIn = (some v, rest)) :
    h.portRead port = (v, { h with portIn := rest, portLog := h.portLog ++ [.read port v] }) := by
  rw [HostEnv.portRead, e]

/-! ## IN and OUT (R1201, R1202, R1207, R1208) -/

/-- An instruction that hands a byte to a port, and changes nothing else. -/
theorem completes_portWrite {i : Instr} {s : State} {fm : Format} {port : Word} {v : Byte}
    (hx : exec i s = .next (((s.opening fm).withHost (HostEnv.portWrite port v)).closing fm)) :
    Completes i s fun t => t.host = { s.host with portLog := s.host.portLog ++ [.write port v] } ∧ Frame [] [] s t ∧
      EndsAt fm (s.after fm) s t := by
  obtain ⟨frame, host, ends⟩ := (Touches.self (s.opening fm)).finishes_withHost (HostEnv.portWrite port v)
  exact ⟨_, hx, host, frame, ends⟩

/-- Settles O33: IN is one read of its port into a register, OUT one write of its port, and the answers of a port are taken in
order. -/
theorem portTransfers : Obligations.PortTransfers := by
  intro s n r
  refine ⟨?direct, ?register, ?out, ?answers⟩
  case direct =>
    let port := cat s.cpu.a n
    have hx : exec (.inAN n) s = .next ((((s.opening .u2n).setA (s.host.portRead port).1).withHost
      fun h => (h.portRead port).2).closing .u2n) := rfl
    obtain ⟨frame, host, ends⟩ := ((Touches.self (ch := [.reg .a]) (st := []) (s.opening .u2n)).setA
      (s.host.portRead port).1).finishes_withHost fun h => (h.portRead port).2
    exact ⟨_, hx, rfl, host, (congrArg HostEnv.portLog host).trans (portRead_portLog port s.host), frame, ends⟩
  case register =>
    let v := (s.host.portRead s.bc).1
    let fl := signZeroParity s.flags v
    have hx : exec (.inRC r) s = .next (((((s.opening .ed2).setReg r v).setFlags fl).withHost
      fun h => (h.portRead s.bc).2).closing .ed2) := rfl
    obtain ⟨frame, host, ends⟩ := (((Touches.self (ch := [.reg r, .f]) (st := []) (s.opening .ed2)).setReg r v).setFlags
      fl).finishes_withHost fun h => (h.portRead s.bc).2
    have hf : (((((s.opening .ed2).setReg r v).setFlags fl).withHost fun h => (h.portRead s.bc).2).closing .ed2).flags = fl :=
      State.flags_setFlags ((s.opening .ed2).setReg r v) fl
    refine ⟨_, hx, ?value, ?_⟩
    case value => rw [State.reg_closing, State.reg_withHost, State.reg_setFlags, State.reg_setReg]
    rw [hf]
    exact ⟨szyx_of_bits rfl rfl rfl rfl, rfl, parity_eq_even_ones _, rfl, rfl, host,
      (congrArg HostEnv.portLog host).trans (portRead_portLog s.bc s.host), frame, ends⟩
  case out =>
    simp only [List.forall_mem_cons]
    exact ⟨completes_portWrite rfl, completes_portWrite rfl, List.forall_mem_nil _⟩
  case answers =>
    intro port others rest a hin ho ha
    have taken := takeAnswer_first (rest := rest) ho ha
    rw [← hin] at taken
    rw [portRead_of_takeAnswer taken]
    exact ⟨rfl, rfl⟩

/-! ## Block input and output (R1203 to R1206, R1209 to R1213) -/

/-- A draw of X, Y, H and P/V keeps the other four flags (R523). -/
theorem State.flags_drawFlags_drawnXYHP (s : State) :
    (s.drawFlags drawnXYHP).flags =
      { s.flags with y := s.drawn.getLsbD 5, h := s.drawn.getLsbD 4, x := s.drawn.getLsbD 3, pv := s.drawn.getLsbD 2 } := by
  simp [flags, Flags.ofByte, drawnXYHP]

/-- `fl` are the flags of a block input or output of the byte `v`, `b` the counter after it (R1213): where it repeats, `again`,
X, Y, H and P/V are left open (R523). -/
def BlockIoFlags (b v : Byte) (k : Nat) (again : Bool) (fl : Flags) : Prop :=
  fl.s = b.getLsbD 7 ∧ fl.z = decide (b = 0) ∧ fl.n = v.getLsbD 7 ∧ fl.c = decide (255 < k) ∧
    (again = false → fl.y = b.getLsbD 5 ∧ fl.x = b.getLsbD 3 ∧ fl.h = decide (255 < k) ∧
      fl.pv = decide (ones (BitVec.ofNat 8 (k % 8) ^^^ b) % 2 = 0))

/-- The end of an iteration leaves the flags of the block input or output it ends. -/
theorem blockIoFlags_endIteration {b v : Byte} {k : Nat} {t : State} (hf : t.flags = blockIoFlags b v k)
    (f : HostEnv → HostEnv) (again : Bool) :
    BlockIoFlags b v k again ((t.withHost f).endIteration drawnXYHP again).flags := by
  have hf' : (t.withHost f).flags = blockIoFlags b v k := hf
  cases again
  case false =>
    rw [State.endIteration, if_neg nofun, State.flags_closing, hf']
    exact ⟨rfl, rfl, rfl, rfl, fun _ => ⟨rfl, rfl, rfl, parity_eq_even_ones _⟩⟩
  case true =>
    rw [State.endIteration, if_pos rfl, State.flags_drawFlags_drawnXYHP, hf']
    exact ⟨rfl, rfl, rfl, rfl, nofun⟩

/-- A block input or output of one iteration, and one that repeats while `B` is not 0: both end as an iteration does. -/
theorem exec_blockIo {i : Instr} {effect : State → State} {rep : Bool} {s : State}
    (hb : (effect (s.opening .ed2)).cpu.b = s.cpu.b - 1)
    (hi : exec i s = if rep then iteration drawnXYHP effect (fun t => t.cpu.b != 0) s else straight .ed2 effect s) :
    exec i s = .next ((effect (s.opening .ed2)).endIteration drawnXYHP (rep && decide (s.cpu.b ≠ 1))) := by
  rw [hi]
  cases rep
  case false => exact straight_eq_endIteration ..
  case true => rw [if_pos rfl, iteration_eq, hb, bne, sub_beq_zero, Bool.true_and, decide_not]

section BlockIo

variable (delta : Word) (s : State)

/-- A block input without its call of the host: the byte read is stored, `HL` moves and `B` is decremented. -/
def inByteCore : State :=
  (((s.poke s.hl (s.host.portRead s.bc).1).setHl (s.hl + delta)).setReg .b (s.cpu.b - 1)).setFlags
    (blockIoFlags (s.cpu.b - 1) (s.host.portRead s.bc).1
      ((s.host.portRead s.bc).1.toNat + (s.cpu.c + lo8 delta).toNat))

theorem inByte_eq_withHost : inByte delta s = (inByteCore delta s).withHost fun h => (h.portRead s.bc).2 := rfl

theorem inByteCore_flags : (inByteCore delta s).flags = blockIoFlags (s.cpu.b - 1) (s.host.portRead s.bc).1
    ((s.host.portRead s.bc).1.toNat + (s.cpu.c + lo8 delta).toNat) := State.flags_setFlags _ _

theorem inByteCore_touches : Touches [.reg .b, .reg .h, .reg .l, .f] [s.hl] s (inByteCore delta s) :=
  ((((Touches.self s).poke _ _).setPair .hl _ (by simp [pairLocs])).setReg .b _).setFlags _

/-- A block output without its call of the host: `HL` moves and `B` is decremented. -/
def outByteCore : State :=
  ((s.setReg .b (s.cpu.b - 1)).setHl (s.hl + delta)).setFlags
    (blockIoFlags (s.cpu.b - 1) (s.peek s.hl) ((s.peek s.hl).toNat + (lo8 (s.hl + delta)).toNat))

theorem outByte_eq_withHost :
    outByte delta s = (outByteCore delta s).withHost (HostEnv.portWrite (cat (s.cpu.b - 1) s.cpu.c) (s.peek s.hl)) := rfl

theorem outByteCore_flags : (outByteCore delta s).flags = blockIoFlags (s.cpu.b - 1) (s.peek s.hl)
    ((s.peek s.hl).toNat + (lo8 (s.hl + delta)).toNat) := State.flags_setFlags _ _

theorem outByteCore_touches : Touches [.reg .b, .reg .h, .reg .l, .f] [] s (outByteCore delta s) :=
  (((Touches.self s).setReg .b _).setPair .hl _ (by simp [pairLocs])).setFlags _

end BlockIo

/-- The end of an iteration whose effect on the core is `core` and whose call of the host is `f`. -/
theorem endIteration_withHost {ch : List Loc} {st : List Word} {s core : State} (h : Touches ch st (s.opening .ed2) core)
    (f : HostEnv → HostEnv) (mask : Byte) (again : Bool) (hf : .f ∈ ch := by simp) :
    ((core.withHost f).endIteration mask again).host =
      (if again then { f s.host with draws := (f s.host).draws + 1 } else f s.host) ∧
    Frame ch st s ((core.withHost f).endIteration mask again) ∧
    EndsAt .ed2 (if again then s.cpu.pc else s.after .ed2) s ((core.withHost f).endIteration mask again) := by
  refine ⟨?_, (h.toFrame.withHost f).endIteration mask again hf, endsAt_endIteration mask again h.pc h.refresh h.eiDelay⟩
  rw [State.endIteration_host, State.withHost_host, h.host, State.opening_host]

/-- Settles O34: each form is one byte moved, with its call of the host, and the end of an iteration, which repeats for the
repeating forms unless `B` was 1. -/
theorem blockIoMovesOneByte : Obligations.BlockIoMovesOneByte := by
  intro s hw b flagsOf
  refine ⟨?input, ?output⟩
  case input =>
    rintro ⟨i, delta, rep⟩ hp
    have hx : exec i s =
        .next ((inByte delta (s.opening .ed2)).endIteration drawnXYHP (rep && decide (s.cpu.b ≠ 1))) := by
      simp only [List.mem_cons, List.not_mem_nil, or_false] at hp
      rcases hp with e | e | e | e <;> cases e <;> exact exec_blockIo rfl rfl
    rw [inByte_eq_withHost] at hx
    refine ⟨_, hx, ?_⟩
    dsimp only
    generalize (rep && decide (s.cpu.b ≠ 1)) = again
    have flags := blockIoFlags_endIteration (inByteCore_flags delta (s.opening .ed2)) (fun h => (h.portRead s.bc).2) again
    obtain ⟨host, frame, ends⟩ := endIteration_withHost (inByteCore_touches delta (s.opening .ed2))
      (fun h => (h.portRead s.bc).2) drawnXYHP again
    refine ⟨?byte, ?hl, ?b, flags, host, ?log, frame, ends⟩
    case byte =>
      rw [State.peek_eq, State.endIteration_mem]
      exact Memory.read_write hw _ _
    case hl => exact (State.hl_endIteration _ _ _).trans (cat_hi8_lo8 _)
    case b => cases again <;> rfl
    case log =>
      refine (congrArg HostEnv.portLog host).trans ?_
      cases again <;> exact portRead_portLog _ _
  case output =>
    rintro ⟨i, delta, rep⟩ hp
    have hx : exec i s =
        .next ((outByte delta (s.opening .ed2)).endIteration drawnXYHP (rep && decide (s.cpu.b ≠ 1))) := by
      simp only [List.mem_cons, List.not_mem_nil, or_false] at hp
      rcases hp with e | e | e | e <;> cases e <;> exact exec_blockIo rfl rfl
    rw [outByte_eq_withHost] at hx
    refine ⟨_, hx, ?_⟩
    dsimp only
    generalize (rep && decide (s.cpu.b ≠ 1)) = again
    have flags := blockIoFlags_endIteration (outByteCore_flags delta (s.opening .ed2))
      (HostEnv.portWrite (cat b s.cpu.c) (s.peek s.hl)) again
    obtain ⟨host, frame, ends⟩ := endIteration_withHost (outByteCore_touches delta (s.opening .ed2))
      (HostEnv.portWrite (cat b s.cpu.c) (s.peek s.hl)) drawnXYHP again
    refine ⟨?hl, ?b, flags, host, frame, ends⟩
    case hl => exact (State.hl_endIteration _ _ _).trans (cat_hi8_lo8 _)
    case b => cases again <;> rfl

end Sys2Proof.Machine

/-! SUPPORT. O47 to O49: the entry of an interrupt handler, and the lines that are accepted (60_exceptions.md R1502 to R1513). -/

namespace Sys2Proof.Machine

/-! ## The entry of a handler (R1510 to R1513) -/

/-- The entry of a handler does what an instruction of one M1 cycle does that clears HALT, writes the latches, pushes `PC`
and goes to its target. -/
theorem enterHandler_eq_setPc (iff2 : Bool) (target : State → Word) (s : State) :
    enterHandler iff2 target s =
      ((((s.opening .u1).setHalt false).setIff false iff2).push16 s.cpu.pc).setPc
        (target ((((s.setHalt false).bump 1).setIff false iff2).push16 s.cpu.pc)) := rfl

/-- From `s` to `t` a handler has been entered, with `iff2` in IFF2 (R1510 to R1513). -/
structure Enters (iff2 : Bool) (s t : State) : Prop where
  host : t.host = s.host
  halt : t.cpu.halt = false
  refresh : t.cpu.r = bumpR 1 s.cpu.r
  sp : t.cpu.sp = s.cpu.sp - 2
  pushed : cat (t.peek (s.cpu.sp - 1)) (t.peek (s.cpu.sp - 2)) = s.cpu.pc
  iff1 : t.cpu.iff1 = false
  iff2 : t.cpu.iff2 = iff2
  eiDelay : t.cpu.eiDelay = false
  frame : Frame [.sp, .iff1, .iff2, .halt] [s.cpu.sp - 1, s.cpu.sp - 2] s t

theorem peek_setPc (s : State) (pc a : Word) : (s.setPc pc).peek a = s.peek a := rfl

/-- The latches a handler's entry writes, before its push (R1510, R1511). -/
def handlerOpening (iff2 : Bool) (s : State) : State := ((s.opening .u1).setHalt false).setIff false iff2

theorem enterHandler_eq (iff2 : Bool) (target : State → Word) (s : State) :
    ∃ pc, enterHandler iff2 target s = ((handlerOpening iff2 s).push16 s.cpu.pc).setPc pc :=
  ⟨_, enterHandler_eq_setPc iff2 target s⟩

theorem handlerOpening_touches {st : List Word} (iff2 : Bool) (s : State) :
    Touches [.sp, .iff1, .iff2, .halt] st (s.opening .u1) (handlerOpening iff2 s) :=
  ((Touches.self _).setHalt false).setIff false iff2

@[simp] theorem handlerOpening_halt (iff2 : Bool) (s : State) : (handlerOpening iff2 s).cpu.halt = false := by
  simp [handlerOpening]
@[simp] theorem handlerOpening_iff1 (iff2 : Bool) (s : State) : (handlerOpening iff2 s).cpu.iff1 = false := by
  simp [handlerOpening]
@[simp] theorem handlerOpening_iff2 (iff2 : Bool) (s : State) : (handlerOpening iff2 s).cpu.iff2 = iff2 := by
  simp [handlerOpening]
@[simp] theorem handlerOpening_sp (iff2 : Bool) (s : State) : (handlerOpening iff2 s).cpu.sp = s.cpu.sp := by
  simp [handlerOpening]
@[simp] theorem handlerOpening_status (iff2 : Bool) (s : State) : (handlerOpening iff2 s).status = s.status := by
  simp [handlerOpening]
@[simp] theorem handlerOpening_mem (iff2 : Bool) (s : State) : (handlerOpening iff2 s).mem = s.mem := by simp [handlerOpening]

theorem enterHandler_iff1 (iff2 : Bool) (target : State → Word) (s : State) :
    (enterHandler iff2 target s).cpu.iff1 = false := by
  obtain ⟨pc, e⟩ := enterHandler_eq iff2 target s
  rw [e, State.setPc_iff1, State.push16_iff1, handlerOpening_iff1]

theorem enterHandler_status (iff2 : Bool) (target : State → Word) (s : State) :
    (enterHandler iff2 target s).status = s.status := by
  obtain ⟨pc, e⟩ := enterHandler_eq iff2 target s
  rw [e, State.setPc_status, State.push16_status, handlerOpening_status]

theorem enterHandler_enters (iff2 : Bool) (target : State → Word) {s : State} (hw : s.mem.wf = true) :
    Enters iff2 s (enterHandler iff2 target s) := by
  obtain ⟨pc, e⟩ := enterHandler_eq iff2 target s
  rw [← handlerOpening_mem iff2] at hw
  have high := peek_push16_high hw s.cpu.pc
  have low := peek_push16_low hw s.cpu.pc
  rw [handlerOpening_sp] at high low
  obtain ⟨frame, host, ends⟩ := ((handlerOpening_touches (st := [s.cpu.sp - 1, s.cpu.sp - 2]) iff2 s).push16
    s.cpu.pc).endsAt pc
  rw [e]
  refine ⟨host, by simp, ends.refresh, ?sp, ?pushed, by simp, by simp, ends.eiDelay, frame⟩
  case sp => rw [State.setPc_sp, State.push16_sp, handlerOpening_sp, pred_pred]
  case pushed => rw [peek_setPc, peek_setPc, high, low, cat_hi8_lo8]

theorem enterHandler_pc (iff2 : Bool) (pc : Word) (s : State) : (enterHandler iff2 (fun _ => pc) s).cpu.pc = pc := rfl

/-- The vector of mode 2 is the word that stands at its address after the push (R1513; log 19). -/
theorem enterHandler_im2Target_pc (iff2 : Bool) (bus : Byte) (s : State) :
    (enterHandler iff2 (im2Target bus) s).cpu.pc = (enterHandler iff2 (im2Target bus) s).peek16 (cat s.cpu.i bus) := by
  obtain ⟨p, hp, e, -⟩ := enterHandler_spec iff2 (im2Target bus) s
  have hi : p.cpu.i = s.cpu.i := by simp [hp]
  rw [e, ← hi]
  rfl

/-- A place that holds what it held need not be named in a frame. -/
theorem Frame.drop {ch ch' : List Loc} {st : List Word} {s t : State} (h : Frame ch st s t) {l₀ : Loc}
    (kept : t.loc l₀ = s.loc l₀) (hch : ∀ l, l ∈ ch → l ≠ l₀ → l ∈ ch') : Frame ch' st s t := by
  refine { h with regs := fun l hl => ?_ }
  by_cases e : l = l₀
  · rw [e, kept]
  · exact h.regs l fun hm => hl (hch l hm e)

/-! ## Which line is accepted (R1502, R1503, R1505) -/

theorem intRequest_eq_some {s : State} {bus : Byte} :
    s.intRequest = some bus ↔ s.cfg.interruptsModeled = true ∧ s.cpu.iff1 = true ∧ s.cpu.eiDelay = false ∧
      s.host.intLine = some bus := by
  simp [State.intRequest, and_assoc]

theorem nmiPending_eq_true {s : State} :
    s.nmiPending = true ↔ s.cfg.interruptsModeled = true ∧ s.host.nmiPending = true := by simp [State.nmiPending]

theorem nextEvent_eq_nmi {s : State} : nextEvent s = .nmi ↔ s.nmiPending = true := by
  unfold nextEvent
  cases s.nmiPending
  case true => simp
  case false =>
    cases s.intRequest
    case some bus => simp
    case none =>
      cases s.cpu.halt
      case true => simp
      case false => cases trapKind s.cfg.biosBase s.cpu.pc <;> simp

theorem nextEvent_eq_int {s : State} {bus : Byte} :
    nextEvent s = .int bus ↔ s.nmiPending = false ∧ s.intRequest = some bus := by
  unfold nextEvent
  cases s.nmiPending
  case true => simp
  case false =>
    cases s.intRequest
    case some b => simp
    case none =>
      cases s.cpu.halt
      case true => simp
      case false => cases trapKind s.cfg.biosBase s.cpu.pc <;> simp

/-- INT is masked by IFF1 (R1505). -/
theorem nextEvent_ne_int_of_iff1 {s : State} (h : s.cpu.iff1 = false) (bus : Byte) : nextEvent s ≠ .int bus := by
  intro e
  obtain ⟨-, enabled, -, -⟩ := intRequest_eq_some.mp (nextEvent_eq_int.mp e).2
  rw [h] at enabled
  cases enabled

/-- INT is masked by EI_DELAY (R116). -/
theorem nextEvent_ne_int_of_eiDelay {s : State} (h : s.cpu.eiDelay = true) (bus : Byte) : nextEvent s ≠ .int bus := by
  intro e
  obtain ⟨-, -, delay, -⟩ := intRequest_eq_some.mp (nextEvent_eq_int.mp e).2
  rw [h] at delay
  cases delay

theorem step_nmi {s : State} (hr : s.status = .running) (h : nextEvent s = .nmi) : step s = acceptNmi s := by
  rw [step_running hr, loopStep, h]

theorem step_int {s : State} {bus : Byte} (hr : s.status = .running) (h : nextEvent s = .int bus) :
    step s = acceptInt bus s := by
  rw [step_running hr, loopStep, h]

/-! ## The acceptance of NMI and INT (R1510 to R1513) -/

/-- The host with its NMI latch cleared (R1510). -/
def nmiTaken (s : State) : State := s.withHost fun h => { h with nmiPending := false }

theorem acceptNmi_eq (s : State) :
    acceptNmi s = .next (enterHandler s.cpu.iff2 (fun _ => 0x0066#16) (nmiTaken s)) := rfl

theorem acceptInt_im0_rst {s : State} {bus : Byte} (hm : s.cpu.im = .im0) (hb : bus &&& 0xC7#8 = 0xC7#8) :
    acceptInt bus s = .next (enterHandler false (fun _ => cat 0x00#8 (bus &&& 0x38#8)) s) := by
  rw [acceptInt, hm]
  exact if_pos hb

theorem acceptInt_im0_other {s : State} {bus : Byte} (hm : s.cpu.im = .im0) (hb : bus &&& 0xC7#8 ≠ 0xC7#8) :
    acceptInt bus s = .next (s.setStatus (.faulted (.unsupportedIm0Opcode s.cpu.pc [bus]))) := by
  rw [acceptInt, hm]
  exact if_neg hb

theorem acceptInt_im1 {s : State} (bus : Byte) (hm : s.cpu.im = .im1) :
    acceptInt bus s = .next (enterHandler false (fun _ => 0x0038#16) s) := by rw [acceptInt, hm]

theorem acceptInt_im2 {s : State} (bus : Byte) (hm : s.cpu.im = .im2) :
    acceptInt bus s = .next (enterHandler false (im2Target bus) s) := by rw [acceptInt, hm]

theorem cat_zero (v : Byte) : cat 0x00#8 v = BitVec.ofNat 16 v.toNat := by
  have := v.isLt
  apply BitVec.eq_of_toNat_eq
  rw [cat_toNat, BitVec.toNat_ofNat, BitVec.toNat_ofNat]
  omega

/-- Settles O47: the acceptance is the entry of a handler with IFF2 as it was. -/
theorem nmiAcceptance : Obligations.NmiAcceptance := by
  intro s hr hm hp hw
  have hx : step s = .next (enterHandler s.cpu.iff2 (fun _ => 0x0066#16) (nmiTaken s)) := by
    rw [step_nmi hr (nextEvent_eq_nmi.mpr (nmiPending_eq_true.mpr ⟨hm, hp⟩)), acceptNmi_eq]
  obtain ⟨host, halt, refresh, sp, pushed, iff1, iff2, eiDelay, frame⟩ :=
    enterHandler_enters s.cpu.iff2 (fun _ => 0x0066#16) (s := nmiTaken s) hw
  have named : Frame [.sp, .iff1, .halt] [s.cpu.sp - 1, s.cpu.sp - 2] (nmiTaken s) _ :=
    frame.drop (l₀ := .iff2) (congrArg Bool.toNat iff2) (by simp)
  exact ⟨_, hx, host, halt, refresh, sp, pushed, iff1, iff2, rfl, eiDelay, { named with regs := named.regs }⟩

/-- Settles O48: in each mode the acceptance is the entry of a handler with IFF2 cleared, and only its target differs; a bus
byte of mode 0 that is no RST sets `STATUS`. -/
theorem intAcceptance : Obligations.IntAcceptance := by
  intro s bus hr hm hn hl h1 he hw enters
  have accepted : step s = acceptInt bus s := by
    refine step_int hr (nextEvent_eq_int.mpr ⟨?_, intRequest_eq_some.mpr ⟨hm, h1, he, hl⟩⟩)
    rw [State.nmiPending, hn, Bool.and_false]
  have entered {source : State → Word} {target : State → Word}
      (hx : acceptInt bus s = .next (enterHandler false source s))
      (hpc : (enterHandler false source s).cpu.pc = target (enterHandler false source s)) : enters target := by
    obtain ⟨host, halt, refresh, sp, pushed, iff1, iff2, eiDelay, frame⟩ := enterHandler_enters false source hw
    exact ⟨_, accepted.trans hx, host, halt, refresh, sp, pushed, iff1, iff2, hpc, eiDelay, frame⟩
  refine ⟨fun mode rst => ?rst, fun mode other => ?fault, fun mode => ?mode1, fun mode => ?mode2⟩
  case rst =>
    exact entered (acceptInt_im0_rst mode rst) ((enterHandler_pc ..).trans (cat_zero _))
  case fault => exact ⟨_, accepted.trans (acceptInt_im0_other mode other), ⟨rfl, rfl, rfl, rfl, rfl⟩, rfl⟩
  case mode1 => exact entered (acceptInt_im1 bus mode) (enterHandler_pc ..)
  case mode2 => exact entered (acceptInt_im2 bus mode) (enterHandler_im2Target_pc ..)

theorem acceptInt_cases (bus : Byte) (s : State) :
    (∃ target, acceptInt bus s = .next (enterHandler false target s)) ∨
      ∃ f, acceptInt bus s = .next (s.setStatus (.faulted f)) := by
  unfold acceptInt
  split
  · split
    · exact .inl ⟨_, rfl⟩
    · exact .inr ⟨_, rfl⟩
  · exact .inl ⟨_, rfl⟩
  · exact .inl ⟨_, rfl⟩

/-- Settles O49: INT needs IFF1 set and EI_DELAY clear; DI and the entry of a handler clear IFF1, and EI sets EI_DELAY. -/
theorem interruptMasking : Obligations.InterruptMasking := by
  intro s t
  refine ⟨?needs, ?latches, ?accepted, ?nmi, ?notModelled⟩
  case needs =>
    intro bus e
    exact (intRequest_eq_some.mp (nextEvent_eq_int.mp e).2).2
  case latches =>
    intro i hi hx
    simp only [List.mem_cons, List.not_mem_nil, or_false] at hi
    rcases hi with rfl | rfl <;> cases hx
    case inl => exact nextEvent_ne_int_of_iff1 rfl
    case inr => exact nextEvent_ne_int_of_eiDelay rfl
  case accepted =>
    intro hx he ht
    have hr := running_of_step hx
    rcases he with he | ⟨bus, he⟩
    · rw [step_nmi hr he] at hx
      cases hx
      exact nextEvent_ne_int_of_iff1 (enterHandler_iff1 ..)
    · rw [step_int hr he] at hx
      rcases acceptInt_cases bus s with ⟨target, e⟩ | ⟨f, e⟩ <;> rw [e] at hx <;> cases hx
      · exact nextEvent_ne_int_of_iff1 (enterHandler_iff1 ..)
      · cases ht
  case nmi => exact fun hm hp => nextEvent_eq_nmi.mpr (nmiPending_eq_true.mpr ⟨hm, hp⟩)
  case notModelled =>
    intro hm
    obtain ⟨noNmi, noInt⟩ := no_interrupts hm
    refine ⟨fun e => ?_, fun bus e => ?_⟩
    · simpa [noNmi] using nextEvent_eq_nmi.mp e
    · simpa [noInt] using (nextEvent_eq_int.mp e).2

end Sys2Proof.Machine

/-! SUPPORT. O50 to O52, O44, O45: the trap comparator (49_cpm_traps.md R1310, R1312), what a BDOS or BIOS function leaves to
the end of its trap (R1313 to R1316), and the components of the core no step or no faulting step changes (60_exceptions.md
R1501). -/

namespace Sys2Proof.Machine

/-! ## The comparator (R1310, D50) -/

theorem slotsClear_slot {base : Word} {n i k : Nat} (h : slotsClear base n i = true) (lo : i ≤ k) (hi : k < i + n) :
    base + BitVec.ofNat 16 (3 * k) ≠ 0x0000#16 ∧ base + BitVec.ofNat 16 (3 * k) ≠ 0x0005#16 := by
  induction n generalizing i with
  | zero => omega
  | succ n ih =>
    simp only [slotsClear, Bool.and_eq_true, bne_iff_ne] at h
    obtain ⟨⟨notExit, notBdos⟩, rest⟩ := h
    by_cases e : k = i
    · rw [e]
      exact ⟨notExit, notBdos⟩
    · exact ih rest (by omega) (by omega)

theorem paramsOk_top {p : Config.Params} (h : paramsOk p = true) : p.biosBase.toNat + 50 ≤ 0xFFFF := by
  simp only [paramsOk, Bool.and_eq_true, decide_eq_true_eq] at h
  exact h.1

theorem paramsOk_slot {p : Config.Params} (h : paramsOk p = true) {k : Nat} (hk : k ≤ 16) :
    p.biosBase + BitVec.ofNat 16 (3 * k) ≠ 0x0000#16 ∧ p.biosBase + BitVec.ofNat 16 (3 * k) ≠ 0x0005#16 := by
  simp only [paramsOk, Bool.and_eq_true] at h
  exact slotsClear_slot h.2 (Nat.zero_le k) (by omega)

/-- A slot address does not wrap (D50). -/
theorem slot_toNat {base : Word} (h : base.toNat + 50 ≤ 0xFFFF) {k : Nat} (hk : k ≤ 16) :
    (base + BitVec.ofNat 16 (3 * k)).toNat = base.toNat + 3 * k := by
  rw [BitVec.toNat_add, BitVec.toNat_ofNat]
  omega

theorem trapKind_slot {p : Config.Params} (h : paramsOk p = true) {k : Nat} (hk : k ≤ 16) :
    trapKind p.biosBase (p.biosBase + BitVec.ofNat 16 (3 * k)) = .bios k := by
  obtain ⟨notExit, notBdos⟩ := paramsOk_slot h hk
  have offset : p.biosBase.toNat + 3 * k - p.biosBase.toNat = 3 * k := Nat.add_sub_cancel_left ..
  rw [trapKind, if_neg notExit, if_neg notBdos, slot_toNat (paramsOk_top h) hk, offset, if_pos (by omega)]
  congr 1
  omega

/-- An address the comparator takes for a slot is the address of one. -/
theorem trapKind_none {base pc : Word} (notExit : pc ≠ 0x0000#16) (notBdos : pc ≠ 0x0005#16)
    (noSlot : ∀ k, k ≤ 16 → pc ≠ base + BitVec.ofNat 16 (3 * k)) : trapKind base pc = .none := by
  rw [trapKind, if_neg notExit, if_neg notBdos, if_neg]
  rintro ⟨above, below, multiple⟩
  have := pc.isLt
  have := base.isLt
  refine noSlot ((pc.toNat - base.toNat) / 3) (by omega) (BitVec.eq_of_toNat_eq ?_)
  rw [BitVec.toNat_add, BitVec.toNat_ofNat]
  omega

/-- The event a trap address leads to (R1311). -/
def TrapKind.event : TrapKind → Event
  | .exit => .exit
  | .bdos => .bdos
  | .bios slot => .bios slot
  | .none => .instruction

theorem AtTrap.nextEvent {pc : Word} {s : State} (h : AtTrap pc s) :
    nextEvent s = (trapKind s.cfg.biosBase pc).event := by
  rw [nextEvent_plain h.noNmi h.noInt h.awake, h.here]
  cases trapKind s.cfg.biosBase pc <;> rfl

theorem step_exit {s : State} (h : AtTrap 0x0000 s) : step s = .next (s.setStatus .exited) := by
  have event : Machine.nextEvent s = .exit := h.nextEvent
  rw [step_running h.running, loopStep, event]
  rfl

theorem step_bdos {s : State} (h : AtTrap 0x0005 s) : step s = bdosTrap s := by
  rw [step_running h.running, loopStep_bdos h.nextEvent]

theorem step_bios {s : State} (hp : paramsOk s.cfg = true) {k : Nat} (hk : k ≤ 16)
    (h : AtTrap (s.cfg.biosBase + BitVec.ofNat 16 (3 * k)) s) : step s = biosTrap k s := by
  have event := h.nextEvent
  rw [trapKind_slot hp hk] at event
  rw [step_running h.running, loopStep, event]
  rfl

/-- Settles O50: the slots lie 3 apart and, by D50, neither wrap nor meet the addresses of the exit and the BDOS. -/
theorem trapComparator : Obligations.TrapComparator := fun _ hp =>
  ⟨rfl, rfl, fun _ hk => trapKind_slot hp hk, fun _ => trapKind_none, step_exit⟩

/-! ## Services that do not exist (R1350, R1385) -/

theorem bdosFunction_none {fn : Byte}
    (h : fn.toNat ∉ [0x01, 0x02, 0x09, 0x0A, 0x0B, 0x0C, 0x0D, 0x0E, 0x0F, 0x10, 0x11, 0x12, 0x13, 0x14, 0x15, 0x16,
      0x19, 0x1A, 0x20]) : bdosFunction fn = none := by
  unfold bdosFunction
  split
  case h_20 => rfl
  all_goals simp [*] at h

theorem biosFunction_none : ∀ k ∈ [0, 1, 6, 7, 8, 9, 10, 11, 12, 13, 14, 15, 16], biosFunction k = none ∧ k ≤ 16 := by
  simp [biosFunction]

/-- Settles O51: the tables of functions and of slots have no service there, and the trap then only sets `STATUS`. -/
theorem unsupportedServicesFault : Obligations.UnsupportedServicesFault := by
  intro s
  refine ⟨fun h hc => ?bdos, fun k hk hp h => ?bios⟩
  case bdos =>
    have hx : step s = .next (s.setStatus (.faulted (.unsupportedBdosFunction 0x0005#16 s.cpu.c))) := by
      rw [step_bdos h, bdosTrap, bdosFunction_none hc]
      rfl
    exact ⟨_, hx, ⟨rfl, rfl, rfl, rfl, rfl⟩, rfl⟩
  case bios =>
    obtain ⟨none, bound⟩ := biosFunction_none k hk
    have hx : step s = .next (s.setStatus (.faulted (.unsupportedBiosFunction s.cpu.pc k))) := by
      rw [step_bios hp bound h, biosTrap, none]
      rfl
    exact ⟨_, hx, ⟨rfl, rfl, rfl, rfl, rfl⟩, rfl⟩

/-! ## What a function leaves to the end of its trap (R1313 to R1316) -/

/-- From `s` to `u` neither the register file, the status nor the parameters have changed. -/
structure Untouched (s u : State) : Prop where
  cpu : u.cpu = s.cpu
  status : u.status = s.status
  params : u.cfg = s.cfg

/-- A BDOS function from `s` leaves `t`: it writes no register, or `A` and `L` as `Result8` does (R1320); where `quiet`, it
leaves the iterator. -/
def Leaves (quiet : Prop) (s t : State) : Prop :=
  ∃ u, Untouched s u ∧ (quiet → u.amb.search = s.amb.search) ∧ (t = u ∨ ∃ v, t = u.result8 v)

section
variable {s u : State} {quiet : Prop}

theorem done_leaves (h : Untouched s u := by exact ⟨rfl, rfl, rfl⟩)
    (hq : quiet → u.amb.search = s.amb.search := by exact fun _ => rfl) : (TrapResult.done u).Yields (Leaves quiet s) :=
  ⟨u, h, hq, .inl rfl⟩

theorem answer_leaves {v : Byte} (h : Untouched s u := by exact ⟨rfl, rfl, rfl⟩)
    (hq : quiet → u.amb.search = s.amb.search := by exact fun _ => rfl) : (answer v u).Yields (Leaves quiet s) :=
  ⟨u, h, hq, .inr ⟨v, rfl⟩⟩

theorem takeHandle_leaves {d : Fin 16} {name : List Byte} {fid : Nat} (h : Untouched s u := by exact ⟨rfl, rfl, rfl⟩)
    (hq : quiet → u.amb.search = s.amb.search := by exact fun _ => rfl) :
    (takeHandle d name fid u).Yields (Leaves quiet s) := by
  unfold takeHandle
  split
  · exact answer_leaves (by exact ⟨h.cpu, h.status, h.params⟩) (by exact hq)
  · exact answer_leaves (by exact ⟨h.cpu, h.status, h.params⟩) (by exact hq)

end

section
variable (s : State)

theorem bdosConIn_leaves : (bdosConIn s).Yields (Leaves True s) := by
  unfold bdosConIn
  split
  · trivial
  · split
    · trivial
    · exact answer_leaves

theorem bdosConOut_leaves : (bdosConOut s).Yields (Leaves True s) := by
  unfold bdosConOut
  split
  · trivial
  · exact done_leaves

theorem bdosWriteStr_leaves : (bdosWriteStr s).Yields (Leaves True s) := by
  unfold bdosWriteStr
  split
  · trivial
  · split
    · trivial
    · exact done_leaves

theorem bdosReadStr_leaves : (bdosReadStr s).Yields (Leaves True s) := by
  unfold bdosReadStr
  split
  · trivial
  · exact done_leaves

theorem bdosConStat_leaves : (bdosConStat s).Yields (Leaves True s) :=
  answer_leaves

theorem bdosReset_leaves : (bdosReset s).Yields (Leaves True s) := answer_leaves

theorem bdosSelect_leaves : (bdosSelect s).Yields (Leaves True s) := by
  unfold bdosSelect
  split
  · dsimp only
    split
    · exact answer_leaves
    · exact answer_leaves
  · exact answer_leaves

theorem bdosCurrent_leaves : (bdosCurrent s).Yields (Leaves True s) := answer_leaves

theorem bdosSetDma_leaves : (bdosSetDma s).Yields (Leaves True s) := done_leaves

theorem bdosUser_leaves : (bdosUser s).Yields (Leaves True s) := by
  unfold bdosUser
  split
  · exact answer_leaves
  · exact done_leaves

theorem bdosOpen_leaves : (bdosOpen s).Yields (Leaves True s) := by
  unfold bdosOpen
  split
  · exact answer_leaves
  · dsimp only
    split
    · exact answer_leaves
    · exact takeHandle_leaves

theorem bdosMake_leaves : (bdosMake s).Yields (Leaves True s) := by
  unfold bdosMake
  split
  · exact answer_leaves
  · dsimp only
    split
    · exact answer_leaves
    · split
      · exact answer_leaves
      · exact takeHandle_leaves

theorem bdosClose_leaves : (bdosClose s).Yields (Leaves True s) := by
  unfold bdosClose
  dsimp only
  split
  · exact answer_leaves
  · split
    · exact answer_leaves
    · exact answer_leaves

theorem bdosSearchFirst_leaves : (bdosSearchFirst s).Yields (Leaves False s) := by
  unfold bdosSearchFirst
  dsimp only
  split
  · exact answer_leaves (hq := by exact False.elim)
  · split
    · exact answer_leaves (hq := by exact False.elim)
    · split
      · exact answer_leaves (hq := by exact False.elim)
      · unfold dmaWrite
        split
        · trivial
        · exact answer_leaves (hq := by exact False.elim)

theorem bdosSearchNext_leaves : (bdosSearchNext s).Yields (Leaves False s) := by
  unfold bdosSearchNext
  split
  · exact answer_leaves (hq := by exact False.elim)
  · split
    · exact answer_leaves (hq := by exact False.elim)
    · unfold dmaWrite
      split
      · trivial
      · exact answer_leaves (hq := by exact False.elim)

theorem bdosDelete_leaves : (bdosDelete s).Yields (Leaves True s) := by
  unfold bdosDelete
  split
  · exact answer_leaves
  · split
    · exact answer_leaves
    · exact answer_leaves

theorem bdosRead_leaves : (bdosRead s).Yields (Leaves True s) := by
  unfold bdosRead
  dsimp only
  split
  · exact answer_leaves
  · split
    · trivial
    · split
      · exact answer_leaves
      · exact answer_leaves

theorem bdosWrite_leaves : (bdosWrite s).Yields (Leaves True s) := by
  unfold bdosWrite
  dsimp only
  split
  · exact answer_leaves
  · split
    · exact answer_leaves
    · exact answer_leaves

end

theorem yields_leaves_mono {p q : Prop} (hpq : q → p) {s : State} {r : TrapResult} (h : r.Yields (Leaves p s)) :
    r.Yields (Leaves q s) := by
  cases r with
  | fault => trivial
  | done t =>
    obtain ⟨u, hu, hp, ht⟩ := h
    exact ⟨u, hu, fun hq => hp (hpq hq), ht⟩

/-- Every function but S_BDOSVER writes no register or answers by `Result8`, and only the searches touch the iterator. -/
theorem bdosFunction_leaves {fn : Byte} {run : State → TrapResult} (hf : bdosFunction fn = some run) (hv : fn ≠ 0x0C)
    (s : State) : (run s).Yields (Leaves (fn ≠ 0x11 ∧ fn ≠ 0x12) s) := by
  have quiet {r : TrapResult} : r.Yields (Leaves True s) → r.Yields (Leaves (fn ≠ 0x11 ∧ fn ≠ 0x12) s) :=
    yields_leaves_mono fun _ => trivial
  unfold bdosFunction at hf
  split at hf <;> cases hf
  case h_1 => exact quiet (bdosConIn_leaves s)
  case h_2 => exact quiet (bdosConOut_leaves s)
  case h_3 => exact quiet (bdosWriteStr_leaves s)
  case h_4 => exact quiet (bdosReadStr_leaves s)
  case h_5 => exact quiet (bdosConStat_leaves s)
  case h_6 number => exact absurd (BitVec.eq_of_toNat_eq number) hv
  case h_7 => exact quiet (bdosReset_leaves s)
  case h_8 => exact quiet (bdosSelect_leaves s)
  case h_9 => exact quiet (bdosOpen_leaves s)
  case h_10 => exact quiet (bdosClose_leaves s)
  case h_11 number =>
    exact yields_leaves_mono (fun hq => hq.1 (BitVec.eq_of_toNat_eq number)) (bdosSearchFirst_leaves s)
  case h_12 number =>
    exact yields_leaves_mono (fun hq => hq.2 (BitVec.eq_of_toNat_eq number)) (bdosSearchNext_leaves s)
  case h_13 => exact quiet (bdosDelete_leaves s)
  case h_14 => exact quiet (bdosRead_leaves s)
  case h_15 => exact quiet (bdosWrite_leaves s)
  case h_16 => exact quiet (bdosMake_leaves s)
  case h_17 => exact quiet (bdosCurrent_leaves s)
  case h_18 => exact quiet (bdosSetDma_leaves s)
  case h_19 => exact quiet (bdosUser_leaves s)

/-! ## The end of a trap (R1313, R1314, R1501) -/

/-- The state a trap ends in, once its function has ended in `u`: the word at `SP` popped into `PC`, `EI_DELAY` cleared. -/
def trapEnd (u : State) : State := u.popPc.setEiDelay false

/-- A trap has faulted: `STATUS` says so, and the host is as its calls have left it (R1501). -/
def trapFault (f : Fault) (h : HostEnv) (s : State) : State := { s with host := h, status := .faulted f }

theorem finishTrap_done (s u : State) : finishTrap s (.done u) = .next (trapEnd u) := rfl

@[simp] theorem trapEnd_pc (u : State) : (trapEnd u).cpu.pc = cat (u.peek (u.cpu.sp + 1)) (u.peek u.cpu.sp) := rfl
@[simp] theorem trapEnd_sp (u : State) : (trapEnd u).cpu.sp = u.cpu.sp + 2 := rfl
@[simp] theorem trapEnd_r (u : State) : (trapEnd u).cpu.r = u.cpu.r := rfl
@[simp] theorem trapEnd_eiDelay (u : State) : (trapEnd u).cpu.eiDelay = false := rfl
@[simp] theorem trapEnd_mem (u : State) : (trapEnd u).mem = u.mem := rfl
@[simp] theorem trapEnd_amb (u : State) : (trapEnd u).amb = u.amb := rfl
@[simp] theorem trapEnd_status (u : State) : (trapEnd u).status = u.status := rfl
@[simp] theorem trapEnd_cfg (u : State) : (trapEnd u).cfg = u.cfg := rfl
@[simp] theorem trapEnd_host (u : State) : (trapEnd u).host = u.host := rfl

theorem peek_trapEnd (u : State) (a : Word) : (trapEnd u).peek a = u.peek a := by
  rw [State.peek, State.peek, trapEnd_mem]

theorem loc_trapEnd_ne (u : State) {l : Loc} (h : l ≠ .sp) : (trapEnd u).loc l = u.loc l := by
  have popped : (trapEnd u).loc l = (u.setSp (u.cpu.sp + 2)).loc l :=
    loc_withStepRegisters (u.setSp (u.cpu.sp + 2)) u.top16 u.cpu.r false l
  rw [popped, loc_setSp_ne u _ h]

/-- The register file is what a place reads. -/
theorem loc_of_cpu {s t : State} (h : t.cpu = s.cpu) (l : Loc) : t.loc l = s.loc l := by
  cases l with
  | reg q => cases q <;> simp [State.loc, State.reg, h]
  | _ => simp [State.loc, h]

/-- From `s` to `u` a function of a trap has written no register but `changed`. -/
structure Serves (changed : List Loc) (s u : State) : Prop where
  regs : ∀ l, l ∉ changed → u.loc l = s.loc l
  sp : u.cpu.sp = s.cpu.sp
  refresh : u.cpu.r = s.cpu.r
  status : u.status = s.status
  params : u.cfg = s.cfg

namespace Serves

variable {ch : List Loc} {s u : State}

theorem of_untouched (h : Untouched s u) : Serves ch s u :=
  ⟨fun l _ => loc_of_cpu h.cpu l, congrArg Cpu.sp h.cpu, congrArg Cpu.r h.cpu, h.status, h.params⟩

theorem setA (h : Serves ch s u) (v : Byte) (ha : .reg .a ∈ ch := by simp) : Serves ch s (u.setA v) :=
  { h with regs := fun l hl => (loc_setReg_ne u v (ne_of_mem_of_not_mem ha hl).symm).trans (h.regs l hl) }

/-- `Result8` writes `A` and `L` (R1320). -/
theorem result8 (h : Serves ch s u) (v : Byte) (ha : .reg .a ∈ ch := by simp) (hl : .reg .l ∈ ch := by simp) :
    Serves ch s (u.result8 v) :=
  { h.setA v ha with
    regs := fun l hn => (loc_setReg_ne (u.setA v) v (ne_of_mem_of_not_mem hl hn).symm).trans ((h.setA v ha).regs l hn) }

theorem loc_trapEnd (h : Serves ch s u) {l : Loc} (hl : l ∉ Loc.sp :: ch) : (trapEnd u).loc l = s.loc l := by
  rw [List.mem_cons, not_or] at hl
  rw [loc_trapEnd_ne u hl.1, h.regs l hl.2]

/-- The word a trap pops is that at the `SP` before it, in the memory after it (R1313). -/
theorem pc_trapEnd (h : Serves ch s u) :
    (trapEnd u).cpu.pc = cat ((trapEnd u).peek (s.cpu.sp + 1)) ((trapEnd u).peek s.cpu.sp) := by
  rw [trapEnd_pc, h.sp, peek_trapEnd, peek_trapEnd]

theorem sp_trapEnd (h : Serves ch s u) : (trapEnd u).cpu.sp = s.cpu.sp + 2 := by rw [trapEnd_sp, h.sp]

theorem trapEnds {st : List Word} (h : Serves ch s u) (hb : ∀ a, a ∉ st → u.peek a = s.peek a)
    (hr : s.status = .running) : TrapEnds ch st s (trapEnd u) :=
  ⟨fun _ => h.loc_trapEnd, fun a ha => (peek_trapEnd u a).trans (hb a ha), h.pc_trapEnd, h.sp_trapEnd, h.refresh, rfl,
    h.status.trans hr, h.params⟩

end Serves

/-! ## What a BDOS or BIOS trap ends in -/

theorem trapFault_faultsWith (f : Fault) (h : HostEnv) (s : State) : FaultsWith f s (trapFault f h s) :=
  ⟨rfl, rfl, rfl, rfl, rfl⟩

/-- The places a BDOS function may write: `A` and `L`, and `B` and `H` of S_BDOSVER (R1320, R1335). -/
def bdosLocs (fn : Byte) : List Loc :=
  if fn = 0x0C then [.reg .a, .reg .b, .reg .h, .reg .l] else [.reg .a, .reg .l]

/-- The places a BIOS function may write: `A` of CONST and CONIN (R1381, R1382). -/
def biosLocs (slot : Nat) : List Loc := if slot = 2 ∨ slot = 3 then [.reg .a] else []

theorem Leaves.serves {quiet : Prop} {s t : State} (h : Leaves quiet s t) : Serves [.reg .a, .reg .l] s t := by
  obtain ⟨u, hu, -, rfl | ⟨v, rfl⟩⟩ := h
  · exact .of_untouched hu
  · exact (Serves.of_untouched hu).result8 v

theorem Leaves.search {quiet : Prop} {s t : State} (h : Leaves quiet s t) (hq : quiet) :
    t.amb.search = s.amb.search := by
  obtain ⟨u, -, kept, rfl | ⟨v, rfl⟩⟩ := h
  · exact kept hq
  · exact kept hq

/-- What S_BDOSVER leaves: `HL` and its mirrors in `A` and `B` (R1335). -/
def versionSet (s : State) : State := ((s.setHl 0x0022#16).setA 0x22#8).setB 0x00#8

theorem bdosVersion_eq (s : State) : bdosVersion s = .done (versionSet s) := rfl

theorem versionSet_serves (s : State) : Serves [.reg .a, .reg .b, .reg .h, .reg .l] s (versionSet s) := by
  refine ⟨fun l hl => ?_, rfl, rfl, rfl, rfl⟩
  simp only [List.mem_cons, List.not_mem_nil, or_false, not_or] at hl
  obtain ⟨ha, hb, hh, hl⟩ := hl
  calc
    _ = ((s.setHl 0x0022#16).setA 0x22#8).loc l := loc_setReg_ne _ _ hb
    _ = (s.setHl 0x0022#16).loc l := loc_setReg_ne _ _ ha
    _ = ((s.setReg .h (hi8 0x0022#16)).setReg .l (lo8 0x0022#16)).loc l := rfl
    _ = (s.setReg .h (hi8 0x0022#16)).loc l := loc_setReg_ne _ _ hl
    _ = s.loc l := loc_setReg_ne _ _ hh

theorem untouched_invalidateSearch (fn : Byte) (s : State) : Untouched s (invalidateSearch fn s) := by
  unfold invalidateSearch
  split
  · exact ⟨rfl, rfl, rfl⟩
  · exact ⟨rfl, rfl, rfl⟩

/-- Every function but F_SNEXT starts with no iterator (R1313). -/
theorem invalidateSearch_of_ne {fn : Byte} (h : fn ≠ 0x12) (s : State) :
    invalidateSearch fn s = s.withAmb noSearch := if_neg h

theorem Serves.of_untouched_start {ch : List Loc} {s v u : State} (h : Serves ch v u) (h0 : Untouched s v) :
    Serves ch s u :=
  ⟨fun l hl => (h.regs l hl).trans (loc_of_cpu h0.cpu l), h.sp.trans (congrArg Cpu.sp h0.cpu),
    h.refresh.trans (congrArg Cpu.r h0.cpu), h.status.trans h0.status, h.params.trans h0.params⟩

theorem bdosFunction_serves {fn : Byte} {run : State → TrapResult} (hf : bdosFunction fn = some run) (s : State) :
    (run s).Yields fun u => Serves (bdosLocs fn) s u ∧ (fn ≠ 0x11 ∧ fn ≠ 0x12 → u.amb.search = s.amb.search) := by
  by_cases hv : fn = 0x0C
  case pos =>
    subst hv
    cases hf
    exact ⟨versionSet_serves s, fun _ => rfl⟩
  case neg =>
    have leaves := bdosFunction_leaves hf hv s
    cases h : run s with
    | fault => trivial
    | done u =>
      rw [h] at leaves
      rw [bdosLocs, if_neg hv]
      exact ⟨leaves.serves, leaves.search⟩

/-- A BDOS trap is served, or it faults (R1313). -/
theorem bdosTrap_cases (s : State) :
    (∃ u, bdosTrap s = .next (trapEnd u) ∧ Serves (bdosLocs s.cpu.c) s u ∧
      (s.cpu.c ≠ 0x11 → s.cpu.c ≠ 0x12 → u.amb.search = none)) ∨
    ∃ f h, bdosTrap s = .next (trapFault f h s) := by
  unfold bdosTrap
  split
  · exact .inr ⟨_, s.host, rfl⟩
  next run hf =>
    have serves := bdosFunction_serves hf (invalidateSearch s.cpu.c s)
    cases h : run (invalidateSearch s.cpu.c s) with
    | fault f e => exact .inr ⟨f, e, rfl⟩
    | done u =>
      rw [h] at serves
      obtain ⟨serves, search⟩ := serves
      refine .inl ⟨u, rfl, serves.of_untouched_start (untouched_invalidateSearch _ s), fun h11 h12 => ?_⟩
      rw [search ⟨h11, h12⟩, invalidateSearch_of_ne h12]
      rfl

theorem biosConst_serves (s : State) : (biosConst s).Yields (Serves [.reg .a] s) :=
  Serves.setA (s := s) (.of_untouched (by exact ⟨rfl, rfl, rfl⟩)) _ (List.mem_singleton.mpr rfl)

theorem biosConIn_serves (s : State) : (biosConIn s).Yields (Serves [.reg .a] s) := by
  unfold biosConIn
  split
  · trivial
  · exact Serves.setA (s := s) (.of_untouched (by exact ⟨rfl, rfl, rfl⟩)) _ (List.mem_singleton.mpr rfl)

theorem biosOut_serves (s : State) : (biosOut s).Yields (Serves [] s) := by
  unfold biosOut
  split
  · trivial
  · exact .of_untouched ⟨rfl, rfl, rfl⟩

theorem biosFunction_serves {slot : Nat} {run : State → TrapResult} (hf : biosFunction slot = some run) (s : State) :
    (run s).Yields (Serves (biosLocs slot) s) := by
  unfold biosFunction at hf
  split at hf <;> cases hf
  · exact biosConst_serves s
  · exact biosConIn_serves s
  · exact biosOut_serves s
  · exact biosOut_serves s

/-- A BIOS trap is served, or it faults (R1314). -/
theorem biosTrap_cases (slot : Nat) (s : State) :
    (∃ u, biosTrap slot s = .next (trapEnd u) ∧ Serves (biosLocs slot) s u) ∨
    ∃ f h, biosTrap slot s = .next (trapFault f h s) := by
  unfold biosTrap
  split
  · exact .inr ⟨_, s.host, rfl⟩
  next run hf =>
    have serves := biosFunction_serves hf s
    cases h : run s with
    | fault f e => exact .inr ⟨f, e, rfl⟩
    | done u =>
      rw [h] at serves
      exact .inl ⟨u, rfl, serves⟩

theorem loopStep_bios {s : State} {k : Nat} (h : nextEvent s = .bios k) : loopStep s = biosTrap k s := by
  rw [loopStep, h]

theorem mem_bdosLocs {fn : Byte} {l : Loc} (h : l ∈ bdosLocs fn) :
    l ∈ [Loc.reg .a, .reg .l] ∨ (fn = 0x0C ∧ (l = .reg .b ∨ l = .reg .h)) := by
  unfold bdosLocs at h
  split at h
  · simp only [List.mem_cons, List.not_mem_nil, or_false] at h ⊢
    grind
  · exact .inl h

theorem mem_biosLocs {k : Nat} {l : Loc} (h : l ∈ biosLocs k) : l = .reg .a ∧ (k = 2 ∨ k = 3) := by
  unfold biosLocs at h
  split at h
  · exact ⟨List.mem_singleton.mp h, ‹_›⟩
  · cases h

/-- Settles O52: a trap that leaves the machine running has been served, and ends with the pop. -/
theorem trapsPopAndKeepRegisters : Obligations.TrapsPopAndKeepRegisters := by
  intro s t hx ht he
  have hr := running_of_step hx
  rw [step_running hr] at hx
  rcases he with he | ⟨k, he⟩
  case inl =>
    rw [loopStep_bdos he] at hx
    rcases bdosTrap_cases s with ⟨u, e, serves, search⟩ | ⟨f, h, e⟩ <;> rw [e] at hx <;> cases hx
    case inr => cases ht
    refine ⟨serves.pc_trapEnd, serves.sp_trapEnd, rfl, serves.refresh, fun _ l hl hver => ?_, fun k hk => ?_,
      fun _ h11 h12 => search h11 h12⟩
    · refine serves.loc_trapEnd fun hm => ?_
      rcases List.mem_cons.mp hm with rfl | hm
      · exact hl (List.mem_cons_self ..)
      · rcases mem_bdosLocs hm with hm | hm
        · exact hl (List.mem_cons_of_mem _ hm)
        · exact hver hm
    · rw [he] at hk
      cases hk
  case inr =>
    rw [loopStep_bios he] at hx
    rcases biosTrap_cases k s with ⟨u, e, serves⟩ | ⟨f, h, e⟩ <;> rw [e] at hx <;> cases hx
    case inr => cases ht
    refine ⟨serves.pc_trapEnd, serves.sp_trapEnd, rfl, serves.refresh, fun hb => ?_, fun j hj l hsp hl => ?_, fun hb => ?_⟩
    · rw [he] at hb
      cases hb
    · rw [he] at hj
      cases hj
      refine serves.loc_trapEnd fun hm => ?_
      rcases List.mem_cons.mp hm with hm | hm
      · exact hsp hm
      · exact hl (mem_biosLocs hm)
    · rw [he] at hb
      cases hb

/-! ## What every step keeps (R1315, R1501) -/

/-- Settles O45: every event but a BDOS trap keeps the ambient state, and a BDOS trap too keeps the parameters. -/
theorem onlyBdosChangesAmbientState : Obligations.OnlyBdosChangesAmbientState := by
  intro s t hx
  rw [step_running (running_of_step hx)] at hx
  by_cases hb : nextEvent s = .bdos
  case pos =>
    refine ⟨?_, fun h => absurd hb h⟩
    rw [loopStep_bdos hb] at hx
    rcases bdosTrap_cases s with ⟨u, e, serves, -⟩ | ⟨f, h, e⟩ <;> rw [e] at hx <;> cases hx
    · exact serves.params
    · rfl
  case neg =>
    obtain ⟨u, e, kept⟩ := loopStep_sustains hb
    obtain rfl : u = t := by simpa [hx] using e.symm
    exact ⟨kept.cfg, fun _ => kept.amb⟩

/-- From `s` the result `r` is a state that has not faulted, or one that has faulted and left the core as it was (R1501). -/
def FaultsLeave (s : State) (r : Result) : Prop := ∀ t f, r = .next t → t.status = .faulted f → FaultsWith f s t

theorem faultsLeave_of_status {s t : State} (h : ∀ f, t.status ≠ .faulted f) : FaultsLeave s (.next t) := by
  intro u f hu hf
  cases hu
  exact absurd hf (h f)

theorem faultsLeave_of_running {s t : State} (hr : s.status = .running) (h : t.status = s.status) :
    FaultsLeave s (.next t) := by
  refine faultsLeave_of_status fun f => ?_
  rw [h, hr]
  nofun

theorem raise_faultsLeave (f : Fault) (s : State) : FaultsLeave s (raise f s) := by
  intro t g ht hg
  cases ht
  cases hg
  exact ⟨rfl, rfl, rfl, rfl, rfl⟩

theorem trapFault_faultsLeave (f : Fault) (h : HostEnv) (s : State) : FaultsLeave s (.next (trapFault f h s)) := by
  intro t g ht hg
  cases ht
  cases hg
  exact trapFault_faultsWith f h s

section
variable {fm : Format} {effect : State → State} {s : State} (hr : s.status = .running)
  (h : ∀ u, (effect u).status = u.status)
include hr h

theorem straight_faultsLeave : FaultsLeave s (straight fm effect s) :=
  faultsLeave_of_running hr ((State.closing_status ..).trans ((h _).trans (State.opening_status ..)))

theorem transfer_faultsLeave : FaultsLeave s (transfer fm effect s) :=
  faultsLeave_of_running hr ((h _).trans (State.opening_status ..))

end

theorem execHalt_faultsLeave {s : State} (hr : s.status = .running) : FaultsLeave s (execHalt s) := by
  unfold execHalt
  split
  · exact straight_faultsLeave hr fun _ => rfl
  · exact raise_faultsLeave _ s

theorem exec_faultsLeave (i : Instr) {s : State} (hr : s.status = .running) : FaultsLeave s (exec i s) := by
  by_cases hi : i ∈ controlWriters
  case neg =>
    obtain ⟨t, e, kept⟩ := exec_ordinary i s hi
    rw [e]
    exact faultsLeave_of_running hr (kept.status.trans (State.opening_status ..))
  case pos =>
    simp only [controlWriters, List.mem_cons, List.not_mem_nil, or_false] at hi
    unfold exec
    rcases hi with rfl | rfl | rfl | hi
    · exact execHalt_faultsLeave hr
    · exact transfer_faultsLeave hr fun _ => rfl
    · exact transfer_faultsLeave hr fun _ => rfl
    · rcases hi with rfl | rfl | rfl | rfl | rfl | rfl | rfl | rfl | rfl <;> exact straight_faultsLeave hr fun _ => rfl

/-- Settles O44: each event leaves the status running or exited, or raises its fault on the state of the step. -/
theorem faultsLeaveTheCore : Obligations.FaultsLeaveTheCore := by
  intro s t f hr hx ht
  rw [step_running hr] at hx
  revert hx ht
  suffices h : FaultsLeave s (loopStep s) from h t f
  unfold loopStep
  split
  · exact faultsLeave_of_running hr (enterHandler_status ..)
  next bus _ =>
    rcases acceptInt_cases bus s with ⟨target, e⟩ | ⟨g, e⟩ <;> rw [e]
    · exact faultsLeave_of_running hr (enterHandler_status ..)
    · exact raise_faultsLeave g s
  · exact faultsLeave_of_running hr rfl
  · exact faultsLeave_of_status nofun
  · rcases bdosTrap_cases s with ⟨u, e, serves, -⟩ | ⟨g, h, e⟩ <;> rw [e]
    · exact faultsLeave_of_running hr serves.status
    · exact trapFault_faultsLeave g h s
  next k _ =>
    rcases biosTrap_cases k s with ⟨u, e, serves⟩ | ⟨g, h, e⟩ <;> rw [e]
    · exact faultsLeave_of_running hr serves.status
    · exact trapFault_faultsLeave g h s
  · unfold instructionStep
    split
    · exact exec_faultsLeave _ hr
    · exact raise_faultsLeave _ s

end Sys2Proof.Machine

/-! SUPPORT. O53 to O55: runs of bytes in memory (20_memory.md R201), what a trap ends in once its function has been run, and
the console, drive and user functions (49_cpm_traps.md R1330 to R1337, R1347 to R1349, R1381 to R1384). -/

namespace Sys2Proof.Machine

/-! ## Runs of bytes (R201) -/

theorem add_one_add_ofNat (a : Word) (k : Nat) : a + 1 + BitVec.ofNat 16 k = a + BitVec.ofNat 16 (k + 1) := by
  rw [BitVec.add_assoc, Nat.add_comm k 1, BitVec.ofNat_add]
  rfl

theorem add_ofNat_inj {a : Word} {j k : Nat} (hj : j < 65536) (hk : k < 65536)
    (h : a + BitVec.ofNat 16 j = a + BitVec.ofNat 16 k) : j = k := by
  have := congrArg BitVec.toNat (add_left_cancel h)
  rw [BitVec.toNat_ofNat, BitVec.toNat_ofNat] at this
  omega

/-- A run of bytes written leaves every byte outside it. -/
theorem Memory.read_writeBytes_ne (m : Memory) {a b : Word} (vs : List Byte)
    (h : ∀ k < vs.length, b ≠ a + BitVec.ofNat 16 k) : (m.writeBytes a vs).read b = m.read b := by
  induction vs generalizing m a with
  | nil => rfl
  | cons v vs ih =>
    have first : b ≠ a := by simpa using h 0 (Nat.zero_lt_succ _)
    rw [writeBytes, ih, read_write_ne m v first]
    intro k hk
    rw [add_one_add_ofNat]
    exact h (k + 1) (Nat.succ_lt_succ hk)

/-- A run of at most 65536 bytes reads back as it was written. -/
theorem Memory.read_writeBytes {m : Memory} (hw : m.wf = true) {a : Word} {vs : List Byte} (hlen : vs.length ≤ 65536)
    {k : Nat} (hk : k < vs.length) : (m.writeBytes a vs).read (a + BitVec.ofNat 16 k) = vs[k] := by
  induction vs generalizing m a k with
  | nil => cases hk
  | cons v vs ih =>
    rw [List.length_cons] at hlen hk
    cases k with
    | zero =>
      rw [BitVec.add_zero, writeBytes, read_writeBytes_ne, read_write hw]
      · rfl
      · intro j hj e
        rw [add_one_add_ofNat] at e
        have := add_ofNat_inj (j := 0) (by omega) (by omega) ((BitVec.add_zero a).trans e)
        omega
    | succ k =>
      rw [writeBytes, ← add_one_add_ofNat, ih (write_wf hw a v) (by omega) (by omega)]
      rfl

theorem Memory.readBytes_getElem? (m : Memory) (n : Nat) (a : Word) {k : Nat} (hk : k < n) :
    (m.readBytes n a)[k]? = some (m.read (a + BitVec.ofNat 16 k)) := by
  induction n generalizing a k with
  | zero => cases hk
  | succ n ih =>
    cases k with
    | zero => simp [readBytes]
    | succ k => rw [readBytes, List.getElem?_cons_succ, ih _ (by omega), add_one_add_ofNat]

/-- The addresses of `n` bytes from `a` on. -/
def addresses (a : Word) (n : Nat) : List Word := (List.range n).map fun k => a + BitVec.ofNat 16 k

theorem peek_pokeBytes_of_not_mem (s : State) {a b : Word} {vs : List Byte} {n : Nat} (hn : vs.length ≤ n)
    (hb : b ∉ addresses a n) : (s.pokeBytes a vs).peek b = s.peek b := by
  refine Memory.read_writeBytes_ne s.mem vs fun k hk e => hb ?_
  exact List.mem_map.mpr ⟨k, List.mem_range.mpr (by omega), e.symm⟩

/-! ## The end of a trap whose function has been run -/

/-- The state most BDOS functions start from: the iterator is gone (R1313). -/
def State.cleared (s : State) : State := s.withAmb noSearch

@[simp] theorem State.cleared_cpu (s : State) : s.cleared.cpu = s.cpu := rfl
@[simp] theorem State.cleared_mem (s : State) : s.cleared.mem = s.mem := rfl
@[simp] theorem State.cleared_amb (s : State) : s.cleared.amb = noSearch s.amb := rfl
@[simp] theorem State.cleared_status (s : State) : s.cleared.status = s.status := rfl
@[simp] theorem State.cleared_host (s : State) : s.cleared.host = s.host := rfl
@[simp] theorem State.cleared_cfg (s : State) : s.cleared.cfg = s.cfg := rfl

theorem bdosTrap_eq {s : State} {fn : Byte} {run : State → TrapResult} (hc : s.cpu.c = fn)
    (hf : bdosFunction fn = some run) : bdosTrap s = finishTrap s (run (invalidateSearch fn s)) := by
  rw [bdosTrap, hc, hf]

theorem biosTrap_eq {k : Nat} {run : State → TrapResult} (hf : biosFunction k = some run) (s : State) :
    biosTrap k s = finishTrap s (run s) := by rw [biosTrap, hf]

theorem step_bdos_run {s : State} {fn : Byte} {run : State → TrapResult} (h : AtTrap 0x0005 s) (hc : s.cpu.c = fn)
    (hf : bdosFunction fn = some run) (hn : fn ≠ 0x12) : step s = finishTrap s (run s.cleared) := by
  rw [step_bdos h, bdosTrap_eq hc hf, invalidateSearch_of_ne hn]
  rfl

theorem step_bios_run {s : State} {k : Nat} {run : State → TrapResult} (hp : paramsOk s.cfg = true)
    (hf : biosFunction k = some run) (hk : k ≤ 16) (h : AtTrap (s.cfg.biosBase + BitVec.ofNat 16 (3 * k)) s) :
    step s = finishTrap s (run s) := by rw [step_bios hp hk h, biosTrap_eq hf]

/-- The trap from `s` whose function has ended in `u` ends in `t`. -/
structure TrapFrom (changed : List Loc) (stored : List Word) (s u t : State) : Prop where
  host : t.host = u.host
  amb : t.amb = u.amb
  mem : t.mem = u.mem
  ends : TrapEnds changed stored s t

theorem trapFrom_done {st : List Word} {s u : State} {r : Result} (hr : s.status = .running)
    (hx : r = finishTrap s (.done u)) (untouched : Untouched s u := by exact ⟨rfl, rfl, rfl⟩)
    (hb : ∀ a, a ∉ st → u.peek a = s.peek a := by exact fun _ _ => rfl) :
    ∃ t, r = .next t ∧ TrapFrom [] st s u t :=
  ⟨trapEnd u, hx, rfl, rfl, rfl, (Serves.of_untouched untouched).trapEnds hb hr⟩

theorem trapFrom_answer {st : List Word} {s u : State} {v : Byte} {r : Result} (hr : s.status = .running)
    (hx : r = finishTrap s (answer v u)) (untouched : Untouched s u := by exact ⟨rfl, rfl, rfl⟩)
    (hb : ∀ a, a ∉ st → u.peek a = s.peek a := by exact fun _ _ => rfl) :
    ∃ t, r = .next t ∧ Answers v t ∧ TrapFrom [.reg .a, .reg .l] st s u t :=
  ⟨trapEnd (u.result8 v), hx, ⟨rfl, rfl⟩, rfl, rfl, rfl,
    ((Serves.of_untouched untouched).result8 v).trapEnds hb hr⟩

theorem trapFrom_fault {s : State} {f : Fault} {e : HostEnv} {r : Result} (hx : r = finishTrap s (.fault f e)) :
    ∃ t, r = .next t ∧ FaultsWith f s t ∧ t.host = e :=
  ⟨trapFault f e s, hx, trapFault_faultsWith f e s, rfl⟩

/-- A BDOS function that ends with `Result8(v)`. -/
theorem bdos_answers {st : List Word} {s u : State} {fn v : Byte} {run : State → TrapResult} (h : AtTrap 0x0005 s)
    (hc : s.cpu.c = fn) (hu : run s.cleared = answer v u) (hf : bdosFunction fn = some run := by rfl)
    (hn : fn ≠ 0x12 := by decide) (untouched : Untouched s u := by exact ⟨rfl, rfl, rfl⟩)
    (hb : ∀ a, a ∉ st → u.peek a = s.peek a := by exact fun _ _ => rfl) :
    ∃ t, step s = .next t ∧ Answers v t ∧ TrapFrom [.reg .a, .reg .l] st s u t :=
  trapFrom_answer h.running ((step_bdos_run h hc hf hn).trans (congrArg _ hu)) untouched hb

/-- A BDOS function that writes no register. -/
theorem bdos_done {st : List Word} {s u : State} {fn : Byte} {run : State → TrapResult} (h : AtTrap 0x0005 s)
    (hc : s.cpu.c = fn) (hu : run s.cleared = .done u) (hf : bdosFunction fn = some run := by rfl)
    (hn : fn ≠ 0x12 := by decide) (untouched : Untouched s u := by exact ⟨rfl, rfl, rfl⟩)
    (hb : ∀ a, a ∉ st → u.peek a = s.peek a := by exact fun _ _ => rfl) :
    ∃ t, step s = .next t ∧ TrapFrom [] st s u t :=
  trapFrom_done h.running ((step_bdos_run h hc hf hn).trans (congrArg _ hu)) untouched hb

/-- A BDOS function that faults. -/
theorem bdos_faults {s : State} {fn : Byte} {f : Fault} {e : HostEnv} {run : State → TrapResult} (h : AtTrap 0x0005 s)
    (hc : s.cpu.c = fn) (hu : run s.cleared = .fault f e) (hf : bdosFunction fn = some run := by rfl)
    (hn : fn ≠ 0x12 := by decide) : ∃ t, step s = .next t ∧ FaultsWith f s t ∧ t.host = e :=
  trapFrom_fault ((step_bdos_run h hc hf hn).trans (congrArg _ hu))

end Sys2Proof.Machine

/-! SUPPORT. O53, O54: the console functions of the BDOS and the BIOS (49_cpm_traps.md R1301, R1330 to R1334, R1381 to
R1384). -/

namespace Sys2Proof.Machine

/-! ## Console input (log 8) -/

namespace HostEnv

variable {h : HostEnv} {v : Byte} {rest : List ConIn}

theorem conRead_byte (e : h.stdin = .byte v :: rest) : h.conRead = (some v, { h with stdin := rest }) := by
  rw [conRead, e]
  rfl

/-- At the end of the input, and before a failing read, a read fails (R1301). -/
theorem conRead_none (e : h.stdin = [] ∨ h.stdin = .err :: rest) :
    ∃ r, h.conRead = (none, { h with stdin := r }) := by
  rcases e with e | e <;> rw [conRead, e] <;> exact ⟨_, rfl⟩

theorem conReadLine_none (e : h.stdin = [] ∨ h.stdin = .err :: rest) :
    ∃ r, h.conReadLine = (none, { h with stdin := r }) := by
  rcases e with e | e <;> rw [conReadLine, e] <;> exact ⟨_, rfl⟩

/-- A line is what stands before the first LF or CR (R1333). -/
theorem takeLine_typed {stop : Byte} (hstop : stop = 0x0A ∨ stop = 0x0D) {typed : List Byte} (lf : 0x0A ∉ typed)
    (cr : 0x0D ∉ typed) : takeLine (typed.map .byte ++ .byte stop :: rest) = (some typed, rest) := by
  induction typed with
  | nil => exact if_pos hstop
  | cons c cs ih =>
    rw [List.mem_cons, not_or] at lf cr
    have more : ¬ (c = 0x0A#8 ∨ c = 0x0D#8) := fun e => e.elim (fun e => lf.1 e.symm) fun e => cr.1 e.symm
    rw [List.map_cons, List.cons_append, takeLine, if_neg more, ih lf.2 cr.2]
    rfl

theorem conReadLine_typed {stop : Byte} (hstop : stop = 0x0A ∨ stop = 0x0D) {typed : List Byte} (lf : 0x0A ∉ typed)
    (cr : 0x0D ∉ typed) (e : h.stdin = typed.map .byte ++ .byte stop :: rest) :
    h.conReadLine = (some typed, { h with stdin := rest }) := by
  rw [conReadLine, e, takeLine_typed hstop lf cr]

theorem conReady_byte (e : h.stdin = .byte v :: rest) : h.conReady = (true, h) := by rw [conReady, e]

theorem conReady_wait (e : h.stdin = .wait :: rest) : h.conReady = (false, { h with stdin := rest }) := by
  rw [conReady, e]

theorem conReady_none (e : h.stdin = [] ∨ h.stdin = .err :: rest) : h.conReady = (false, h) := by
  rcases e with e | e <;> rw [conReady, e]

end HostEnv

/-! ## The string of C_WRITESTR (R1332) -/

theorem stringAt_eq_some {m : Memory} {a : Word} {str : List Byte} {n : Nat} (hn : str.length < n) (hs : 0x24#8 ∉ str)
    (bytes : ∀ k, (h : k < str.length) → m.read (a + BitVec.ofNat 16 k) = str[k])
    (dollar : m.read (a + BitVec.ofNat 16 str.length) = 0x24#8) : stringAt m n a = some str := by
  induction str generalizing a n with
  | nil =>
    obtain ⟨n, rfl⟩ := Nat.exists_eq_add_of_lt hn
    rw [List.length_nil, BitVec.add_zero] at dollar
    rw [stringAt]
    exact if_pos dollar
  | cons c cs ih =>
    obtain ⟨n, rfl⟩ : ∃ k, n = k + 1 := ⟨n - 1, by omega⟩
    rw [List.mem_cons, not_or] at hs
    have first : m.read a = c := by simpa using bytes 0 (Nat.zero_lt_succ _)
    have more : stringAt m n (a + 1) = some cs := by
      refine ih (by simpa using hn) hs.2 (fun k hk => ?_) ?_
      · rw [add_one_add_ofNat]
        exact bytes (k + 1) (Nat.succ_lt_succ hk)
      · rw [add_one_add_ofNat]
        exact dollar
    rw [stringAt, first, if_neg (Ne.symm hs.1), more]
    rfl

theorem stringAt_eq_none {m : Memory} (h : ∀ a, m.read a ≠ 0x24#8) (n : Nat) (a : Word) : stringAt m n a = none := by
  induction n generalizing a with
  | zero => rfl
  | succ n ih =>
    rw [stringAt, if_neg (h a), ih]
    rfl

/-! ## The console functions of the BDOS -/

section
variable {s : State} {v : Byte} {rest : List ConIn}

theorem bdosConIn_ok (ok : s.host.fails = []) (e : s.host.stdin = .byte v :: rest) :
    bdosConIn s =
      answer v { s with host := { s.host with stdin := rest, stdout := s.host.stdout ++ [v] } } := by
  have echo := HostEnv.conWrite_ok (h := { s.host with stdin := rest }) ok v
  simp only [bdosConIn, HostEnv.conRead_byte e, echo]

theorem bdosConIn_no_byte (e : s.host.stdin = [] ∨ s.host.stdin = .err :: rest) :
    ∃ r, bdosConIn s = .fault bdosConsoleError { s.host with stdin := r } := by
  obtain ⟨r, e⟩ := HostEnv.conRead_none e
  exact ⟨r, by simp only [bdosConIn, e]⟩

theorem bdosConIn_err {more : List Bool} (bad : s.host.fails = true :: more) (e : s.host.stdin = .byte v :: rest) :
    bdosConIn s = .fault bdosConsoleError { s.host with stdin := rest, fails := more } := by
  have echo := HostEnv.conWrite_err (h := { s.host with stdin := rest }) bad v
  simp only [bdosConIn, HostEnv.conRead_byte e, echo]

theorem bdosConOut_ok (ok : s.host.fails = []) :
    bdosConOut s = .done { s with host := { s.host with stdout := s.host.stdout ++ [s.cpu.e] } } := by
  simp only [bdosConOut, HostEnv.conWrite_ok ok]

theorem bdosConOut_err {more : List Bool} (bad : s.host.fails = true :: more) :
    bdosConOut s = .fault bdosConsoleError { s.host with fails := more } := by
  simp only [bdosConOut, HostEnv.conWrite_err bad]

theorem bdosWriteStr_ok {str : List Byte} (hstr : stringAt s.mem 65536 s.de = some str) (ok : s.host.fails = []) :
    bdosWriteStr s = .done { s with host := { s.host with stdout := s.host.stdout ++ str } } := by
  simp only [bdosWriteStr, hstr, HostEnv.conWriteAll_ok str ok]

theorem bdosWriteStr_err {str : List Byte} (hstr : stringAt s.mem 65536 s.de = some str) {n : Nat} {more : List Bool}
    (hn : n < str.length) (bad : s.host.fails = List.replicate n false ++ true :: more) :
    bdosWriteStr s =
      .fault bdosConsoleError { s.host with stdout := s.host.stdout ++ str.take n, fails := more } := by
  simp only [bdosWriteStr, hstr, HostEnv.conWriteAll_err str hn bad]

theorem bdosWriteStr_unterminated (hstr : stringAt s.mem 65536 s.de = none) :
    bdosWriteStr s = .fault (.unterminatedString 0x0005#16 s.de) s.host := by
  simp only [bdosWriteStr, hstr]

/-- The state C_READSTR leaves of a line: its length at `DE + 1`, its bytes from `DE + 2` on (R1333). -/
def storeLine (line : List Byte) (s : State) : State :=
  (s.poke (s.de + 1) (BitVec.ofNat 8 line.length)).pokeBytes (s.de + 2) line

theorem bdosReadStr_ok {line : List Byte} (e : s.host.conReadLine = (some line, { s.host with stdin := rest })) :
    bdosReadStr s =
      .done { storeLine (line.take (s.peek s.de).toNat) s with host := { s.host with stdin := rest } } := by
  simp only [bdosReadStr, e]
  rfl

theorem bdosReadStr_no_line (e : s.host.stdin = [] ∨ s.host.stdin = .err :: rest) :
    ∃ r, bdosReadStr s = .fault bdosConsoleError { s.host with stdin := r } := by
  obtain ⟨r, e⟩ := HostEnv.conReadLine_none e
  exact ⟨r, by simp only [bdosReadStr, e]⟩

theorem bdosConStat_eq :
    bdosConStat s = answer (if s.host.conReady.1 then 0xFF#8 else 0x00#8) { s with host := s.host.conReady.2 } := rfl

end

/-- A line stored: its count, its bytes, and nothing else (R1333). -/
theorem storeLine_spec {s : State} (hw : s.mem.wf = true) {typed : List Byte} (hl : typed.length < 256) :
    ((storeLine typed s).peek (s.de + 1)).toNat = typed.length ∧
    (∀ k, (h : k < typed.length) → (storeLine typed s).peek (s.de + 2 + BitVec.ofNat 16 k) = typed[k]) ∧
    ∀ a, a ∉ addresses (s.de + 1) (typed.length + 1) → (storeLine typed s).peek a = s.peek a := by
  have next (k : Nat) : s.de + 2 + BitVec.ofNat 16 k = s.de + 1 + BitVec.ofNat 16 (k + 1) := by
    rw [← add_one_add_ofNat, BitVec.add_assoc s.de 1 1]
    rfl
  refine ⟨?count, fun k hk => ?bytes, fun a ha => ?others⟩
  case count =>
    have kept : (storeLine typed s).peek (s.de + 1) =
        (s.mem.write (s.de + 1) (BitVec.ofNat 8 typed.length)).read (s.de + 1) := by
      refine Memory.read_writeBytes_ne _ typed fun k hk e => ?_
      rw [next] at e
      have := add_ofNat_inj (j := 0) (by omega) (by omega) ((BitVec.add_zero _).trans e)
      omega
    rw [kept, Memory.read_write hw, BitVec.toNat_ofNat]
    omega
  case bytes => exact Memory.read_writeBytes (Memory.write_wf hw _ _) (by omega) hk
  case others =>
    have outside : ∀ k < typed.length + 1, a ≠ s.de + 1 + BitVec.ofNat 16 k := fun k hk e =>
      ha (List.mem_map.mpr ⟨k, List.mem_range.mpr hk, e.symm⟩)
    have first : a ≠ s.de + 1 := by simpa using outside 0 (Nat.zero_lt_succ _)
    refine (Memory.read_writeBytes_ne _ typed fun k hk => ?_).trans (Memory.read_write_ne s.mem _ first)
    rw [next]
    exact outside (k + 1) (Nat.succ_lt_succ hk)

/-- Settles O53: each clause is one run of its function, on a host whose answers are given. -/
theorem bdosConsoleFunctions : Obligations.BdosConsoleFunctions := by
  intro s v rest h
  refine ⟨fun hc ok e => ?read, fun hc e => ?noInput, fun more hc bad e => ?badEcho, fun hc ok => ?write,
    fun more hc bad => ?badWrite, fun str hc hlen hs bytes dollar => ?string, fun hc noDollar => ?unterminated,
    fun typed stop hc hw lf cr hstop e => ?line, fun hc => ?status⟩
  case read =>
    obtain ⟨t, hx, answers, host, amb, -, ends⟩ := bdos_answers h hc (bdosConIn_ok ok e)
    exact ⟨t, hx, answers, host, amb, ends⟩
  case noInput =>
    rcases hc with hc | hc
    · obtain ⟨r, fault⟩ := bdosConIn_no_byte (s := s.cleared) e
      obtain ⟨t, hx, faults, host⟩ := bdos_faults h hc fault
      exact ⟨t, hx, faults, by rw [host, State.cleared_host]⟩
    · obtain ⟨r, fault⟩ := bdosReadStr_no_line (s := s.cleared) e
      obtain ⟨t, hx, faults, host⟩ := bdos_faults h hc fault
      exact ⟨t, hx, faults, by rw [host, State.cleared_host]⟩
  case badEcho => exact bdos_faults h hc (bdosConIn_err bad e)
  case write =>
    obtain ⟨t, hx, host, amb, -, ends⟩ := bdos_done h hc (bdosConOut_ok ok)
    exact ⟨t, hx, host, amb, ends⟩
  case badWrite => exact bdos_faults h hc (bdosConOut_err bad)
  case string =>
    have hstr : stringAt s.cleared.mem 65536 s.cleared.de = some str := stringAt_eq_some hlen hs bytes dollar
    refine ⟨fun ok => ?_, fun n more hn bad => bdos_faults h hc (bdosWriteStr_err hstr hn bad)⟩
    obtain ⟨t, hx, host, amb, -, ends⟩ := bdos_done h hc (bdosWriteStr_ok hstr ok)
    exact ⟨t, hx, host, amb, ends⟩
  case unterminated => exact bdos_faults h hc (bdosWriteStr_unterminated (stringAt_eq_none noDollar _ _))
  case line =>
    intro n
    let stored := typed.take (s.peek s.de).toNat
    have hn : stored.length = n := (List.length_take ..).trans (Nat.min_comm ..)
    have short : stored.length < 256 := hn ▸ Nat.lt_of_le_of_lt (Nat.min_le_right ..) (s.peek s.de).isLt
    obtain ⟨count, bytes, others⟩ := storeLine_spec (s := s.cleared) hw short
    rw [hn] at count others
    obtain ⟨t, hx, host, amb, mem, ends⟩ := bdos_done (st := addresses (s.de + 1) (n + 1)) h hc
      (bdosReadStr_ok (HostEnv.conReadLine_typed hstop lf cr e)) (hb := others)
    have peek (a : Word) : t.peek a = (storeLine stored s.cleared).peek a := congrArg (Memory.read · a) mem
    refine ⟨t, hx, (congrArg BitVec.toNat (peek _)).trans count, fun k hk hkn => ?_, host, amb, ends⟩
    exact ((peek _).trans (bytes k (hn ▸ hkn))).trans List.getElem_take
  case status =>
    obtain ⟨t, hx, answers, host, amb, -, ends⟩ := bdos_answers h hc (bdosConStat_eq (s := s.cleared))
    refine ⟨t, hx, amb, ends, fun e => ?ready, fun e => ?ended, fun e => ?waiting⟩
    case ready =>
      rw [State.cleared_host, HostEnv.conReady_byte e] at answers host
      exact ⟨answers, host⟩
    case ended =>
      rw [State.cleared_host, HostEnv.conReady_none e] at answers host
      exact ⟨answers, host⟩
    case waiting =>
      rw [State.cleared_host, HostEnv.conReady_wait e] at answers host
      exact ⟨answers, host⟩

end Sys2Proof.Machine

namespace Sys2Proof.Machine

/-! ## The console slots of the BIOS (R1381 to R1384) -/

/-- A BIOS function that is served. -/
theorem bios_done {ch : List Loc} {st : List Word} {s u : State} (k : Nat) {run : State → TrapResult}
    (hp : paramsOk s.cfg = true) (h : AtTrap (s.cfg.biosBase + BitVec.ofNat 16 (3 * k)) s) (hu : run s = .done u)
    (serves : Serves ch s u) (hb : ∀ a, a ∉ st → u.peek a = s.peek a := by exact fun _ _ => rfl)
    (hf : biosFunction k = some run := by rfl) (hk : k ≤ 16 := by decide) :
    ∃ t, step s = .next t ∧ t.cpu.a = u.cpu.a ∧ TrapFrom ch st s u t :=
  ⟨trapEnd u, (step_bios_run hp hf hk h).trans (congrArg _ hu), rfl, rfl, rfl, rfl, serves.trapEnds hb h.running⟩

/-- A BIOS function that faults. -/
theorem bios_faults {s : State} (k : Nat) {f : Fault} {e : HostEnv} {run : State → TrapResult} (hp : paramsOk s.cfg = true)
    (h : AtTrap (s.cfg.biosBase + BitVec.ofNat 16 (3 * k)) s) (hu : run s = .fault f e)
    (hf : biosFunction k = some run := by rfl) (hk : k ≤ 16 := by decide) :
    ∃ t, step s = .next t ∧ FaultsWith f s t ∧ t.host = e :=
  trapFrom_fault ((step_bios_run hp hf hk h).trans (congrArg _ hu))

section
variable {s : State} {v : Byte} {rest : List ConIn}

theorem biosConst_eq (s : State) : biosConst s =
    .done ({ s with host := s.host.conReady.2 }.setA (if s.host.conReady.1 then 0xFF#8 else 0x00#8)) := rfl

theorem biosConIn_ok (e : s.host.stdin = .byte v :: rest) :
    biosConIn s = .done ({ s with host := { s.host with stdin := rest } }.setA v) := by
  simp only [biosConIn, HostEnv.conRead_byte e]

theorem biosConIn_no_byte (e : s.host.stdin = [] ∨ s.host.stdin = .err :: rest) :
    ∃ r, biosConIn s = .fault (.consoleIOError s.cpu.pc) { s.host with stdin := r } := by
  obtain ⟨r, e⟩ := HostEnv.conRead_none e
  exact ⟨r, by simp only [biosConIn, e]⟩

theorem biosOut_ok (ok : s.host.fails = []) :
    biosOut s = .done { s with host := { s.host with stdout := s.host.stdout ++ [s.cpu.c] } } := by
  simp only [biosOut, HostEnv.conWrite_ok ok]

theorem biosOut_err {more : List Bool} (bad : s.host.fails = true :: more) :
    biosOut s = .fault (.consoleIOError s.cpu.pc) { s.host with fails := more } := by
  simp only [biosOut, HostEnv.conWrite_err bad]

end

/-- The register file with the answer of a console function in `A`. -/
theorem serves_setHost_setA (s : State) (h : HostEnv) (v : Byte) : Serves [.reg .a] s ({ s with host := h }.setA v) :=
  Serves.setA (s := s) (.of_untouched (by exact ⟨rfl, rfl, rfl⟩)) v (List.mem_singleton.mpr rfl)

/-- CONOUT and LIST are one function (R1383, R1384). -/
theorem bios_out {s : State} (k : Nat) (hp : paramsOk s.cfg = true)
    (h : AtTrap (s.cfg.biosBase + BitVec.ofNat 16 (3 * k)) s) (hf : biosFunction k = some biosOut := by rfl)
    (hk : k ≤ 16 := by decide) :
    (s.host.fails = [] → ∃ t, step s = .next t ∧
      t.host = { s.host with stdout := s.host.stdout ++ [s.cpu.c] } ∧ t.amb = s.amb ∧ TrapEnds [] [] s t) ∧
    (∀ more, s.host.fails = true :: more → ∃ t, step s = .next t ∧
      FaultsWith (.consoleIOError s.cpu.pc) s t ∧ t.host = { s.host with fails := more }) := by
  refine ⟨fun ok => ?_, fun more bad => bios_faults k hp h (biosOut_err bad) hf hk⟩
  obtain ⟨t, hx, -, host, amb, -, ends⟩ := bios_done k hp h (biosOut_ok ok) (.of_untouched ⟨rfl, rfl, rfl⟩) (hf := hf)
    (hk := hk)
  exact ⟨t, hx, host, amb, ends⟩

/-- Settles O54: each clause is one run of its slot's function, on a host whose answers are given. -/
theorem biosConsoleSlots : Obligations.BiosConsoleSlots := by
  intro s v rest hp
  refine ⟨fun h => ?const, fun h e => ?conin, fun h e => ?noInput, fun slot hslot h => ?out⟩
  case const =>
    obtain ⟨t, hx, answer, host, amb, -, ends⟩ := bios_done 2 hp h (biosConst_eq s) (serves_setHost_setA s _ _)
    refine ⟨t, hx, amb, ends, fun e => ?ready, fun e => ?ended, fun e => ?waiting⟩
    case ready =>
      rw [HostEnv.conReady_byte e] at answer host
      exact ⟨answer, host⟩
    case ended =>
      rw [HostEnv.conReady_none e] at answer host
      exact ⟨answer, host⟩
    case waiting =>
      rw [HostEnv.conReady_wait e] at answer host
      exact ⟨answer, host⟩
  case conin =>
    obtain ⟨t, hx, answer, host, amb, -, ends⟩ := bios_done 3 hp h (biosConIn_ok e) (serves_setHost_setA s _ v)
    exact ⟨t, hx, answer, host, amb, ends⟩
  case noInput =>
    obtain ⟨r, fault⟩ := biosConIn_no_byte e
    obtain ⟨t, hx, faults, -⟩ := bios_faults 3 hp h fault
    exact ⟨t, hx, faults⟩
  case out =>
    simp only [List.mem_cons, List.not_mem_nil, or_false] at hslot
    rcases hslot with rfl | rfl
    · exact bios_out 4 hp h
    · exact bios_out 5 hp h

end Sys2Proof.Machine

/-! SUPPORT. O55: the version, drive, DMA and user functions (49_cpm_traps.md R1335 to R1337, R1347 to R1349). -/

namespace Sys2Proof.Machine

section
variable {s : State}

theorem bdosSelect_ok {d : Fin 16} (he : s.cpu.e.toNat = d.val) (there : s.host.dirExists (driveLetter d) = true) :
    bdosSelect s = answer 0x00#8 (s.withAmb fun a => { a with curDrive := d }) := by
  have hd : (⟨s.cpu.e.toNat, he ▸ d.isLt⟩ : Fin 16) = d := Fin.ext he
  rw [bdosSelect, dif_pos (he ▸ d.isLt)]
  simp only [hd, there, if_true]

theorem driveLetter_eq (v : Byte) (h : v.toNat < 16) : driveLetter ⟨v.toNat, h⟩ = 0x41#8 + v := by
  rw [driveLetter, BitVec.ofNat_toNat, BitVec.setWidth_eq]

theorem bdosSelect_none (h : 15 < s.cpu.e.toNat ∨ s.host.dirExists (0x41#8 + s.cpu.e) = false) :
    bdosSelect s = answer 0xFF#8 s := by
  by_cases he : s.cpu.e.toNat < 16
  case neg => rw [bdosSelect, dif_neg he]
  case pos =>
    have gone : s.host.dirExists (driveLetter ⟨s.cpu.e.toNat, he⟩) = false := by
      rw [driveLetter_eq]
      exact h.resolve_left (by omega)
    rw [bdosSelect, dif_pos he]
    simp only [gone, Bool.false_eq_true, if_false]

theorem bdosUser_get (he : s.cpu.e = 0xFF#8) : bdosUser s = answer (BitVec.ofNat 8 s.amb.curUser.val) s := if_pos he

theorem bdosUser_set (he : s.cpu.e ≠ 0xFF#8) :
    bdosUser s = .done (s.withAmb fun a => { a with curUser := (s.cpu.e.extractLsb' 0 5).toFin }) := if_neg he

end

/-- Settles O55: each function is one write of the ambient state, or none, and its result. -/
theorem bdosSystemFunctions : Obligations.BdosSystemFunctions := by
  intro s h
  refine ⟨fun hc => ?version, fun hc => ?reset, fun d hc he there => ?select, fun hc gone => ?noDrive, fun hc => ?current,
    fun hc => ?dma, fun hc he => ?getUser, fun hc he => ?setUser⟩
  case version =>
    have hx : step s = .next (trapEnd (versionSet s.cleared)) :=
      (step_bdos_run h hc rfl (by decide)).trans (congrArg _ (bdosVersion_eq s.cleared))
    have serves := (versionSet_serves s.cleared).of_untouched_start (s := s) ⟨rfl, rfl, rfl⟩
    exact ⟨_, hx, cat_hi8_lo8 _, rfl, rfl, rfl, rfl, serves.trapEnds (fun _ _ => rfl) h.running⟩
  case reset =>
    obtain ⟨t, hx, answers, host, amb, -, ends⟩ := bdos_answers (run := bdosReset) h hc rfl
    exact ⟨t, hx, answers, amb, host, ends⟩
  case select =>
    obtain ⟨t, hx, answers, host, amb, -, ends⟩ := bdos_answers h hc (bdosSelect_ok he there)
    exact ⟨t, hx, answers, amb, host, ends⟩
  case noDrive =>
    obtain ⟨t, hx, answers, host, amb, -, ends⟩ := bdos_answers h hc (bdosSelect_none gone)
    exact ⟨t, hx, answers, amb, host, ends⟩
  case current =>
    obtain ⟨t, hx, answers, host, amb, -, ends⟩ := bdos_answers (run := bdosCurrent) h hc rfl
    exact ⟨t, hx, answers, amb, host, ends⟩
  case dma =>
    obtain ⟨t, hx, host, amb, -, ends⟩ := bdos_done (run := bdosSetDma) h hc rfl
    exact ⟨t, hx, amb, host, ends⟩
  case getUser =>
    obtain ⟨t, hx, answers, host, amb, -, ends⟩ := bdos_answers h hc (bdosUser_get he)
    exact ⟨t, hx, answers, amb, host, ends⟩
  case setUser =>
    obtain ⟨t, hx, host, amb, -, ends⟩ := bdos_done h hc (bdosUser_set he)
    refine ⟨t, hx, ?_, ?_, host, ends⟩
    · rw [amb]
      exact BitVec.extractLsb'_toNat ..
    · rw [amb]
      rfl

end Sys2Proof.Machine

/-! SUPPORT. O56: the lookups of the host's directories, files and open file objects after each change (49_cpm_traps.md R1300),
the handle pool (R124), and F_OPEN, F_MAKE and F_CLOSE (R1338, R1339, R1346). -/

namespace Sys2Proof.Machine

/-! ## Lookups in the host -/

namespace HostEnv

section
variable {α : Type} {p q : α → Bool} {f : α → α}

/-- The element updated is the one a search for it finds. -/
theorem find?_updateFirst_same (hf : ∀ x, p (f x) = p x) (xs : List α) :
    (updateFirst p f xs).find? p = (xs.find? p).map f := by
  induction xs with
  | nil => rfl
  | cons x xs ih => cases hx : p x <;> simp [updateFirst, hx, hf, ih]

/-- A search for another element does not see the update. -/
theorem find?_updateFirst_other (h : ∀ x, p x = true → q x = false ∧ q (f x) = false) (xs : List α) :
    (updateFirst p f xs).find? q = xs.find? q := by
  induction xs with
  | nil => rfl
  | cons x xs ih =>
    cases hx : p x
    case false => simp [updateFirst, hx, List.find?_cons, ih]
    case true => simp [updateFirst, hx, h x hx]

/-- An element put in is the one found, where none was before. -/
theorem find?_insertAt {x : α} (hx : p x = true) {xs : List α} (h : xs.find? p = none) (k : Nat) :
    (insertAt x k xs).find? p = some x := by
  induction xs generalizing k with
  | nil => cases k <;> simp [insertAt, hx]
  | cons y ys ih =>
    rw [List.find?_cons] at h
    cases hy : p y
    case true => simp [hy] at h
    case false =>
      rw [hy] at h
      cases k <;> simp [insertAt, hx, hy, ih h]

end

variable {h : HostEnv} {letter : Byte} {name : List Byte}

theorem dir?_mapFiles (f : List HostFile → List HostFile) :
    (h.mapFiles letter f).dir? letter = (h.dir? letter).map fun d => { d with files := f d.files } :=
  find?_updateFirst_same (p := fun d : HostDir => d.letter == letter) (f := fun d => { d with files := f d.files })
    (fun _ => rfl) h.dirs

theorem dir?_mapFiles_ne {l : Byte} (hl : l ≠ letter) (f : List HostFile → List HostFile) :
    (h.mapFiles letter f).dir? l = h.dir? l := by
  refine find?_updateFirst_other (fun d hd => ?_) h.dirs
  have hd : d.letter = letter := beq_iff_eq.mp hd
  simp [hd, Ne.symm hl]

/-- The files of a directory that is there, found by name. -/
theorem file?_of_dir? {d : HostDir} (hd : h.dir? letter = some d) (name : List Byte) :
    h.file? letter name = d.files.find? (fun f => f.name == name) := by rw [file?, hd]; rfl

theorem fileExists_eq_false : h.fileExists letter name = false ↔ h.file? letter name = none := by
  simp [fileExists]

theorem file?_no_dir (gone : h.dirExists letter = false) (name : List Byte) : h.file? letter name = none := by
  simp only [dirExists, Option.isSome_eq_false_iff, Option.isNone_iff_eq_none] at gone
  rw [file?, gone]
  rfl

theorem openFile?_closed (fid : Nat) (os : List OpenFile) :
    (os.filter fun o => o.fid != fid).find? (fun o => o.fid == fid) = none := by
  simp

theorem openFile?_closed_ne {fid k : Nat} (hk : k ≠ fid) (os : List OpenFile) :
    (os.filter fun o => o.fid != fid).find? (fun o => o.fid == k) = os.find? (fun o => o.fid == k) := by
  rw [List.find?_filter]
  congr 1
  funext o
  by_cases ho : o.fid = k <;> simp [ho, hk]

theorem openFile?_opening_ne {k : Nat} (hk : k ≠ h.nextFid) :
    (h.opening letter name).2.openFile? k = h.openFile? k := by
  simp [openFile?, opening, Ne.symm hk]

/-- The host with a new empty file, and an open file object on it (R1300; log 13, log 15). -/
def created (letter : Byte) (name : List Byte) (h : HostEnv) : HostEnv :=
  ((mapFiles letter (insertAt { name := name, data := [] } (Config.freePlace h.draws))
    { h with draws := h.draws + 1 }).opening letter name).2

theorem createFile_ok (e : h.fails = []) (there : h.dirExists letter = true) (new : h.fileExists letter name = false) :
    createFile letter name h = (some h.nextFid, created letter name h) := by
  simp [createFile, failing_nil e, there, new, created, opening, mapFiles]

theorem created_file? (there : h.dirExists letter = true) (new : h.fileExists letter name = false) :
    (created letter name h).file? letter name = some { name := name, data := [] } := by
  obtain ⟨d, hd⟩ := Option.isSome_iff_exists.mp there
  have none : d.files.find? (fun f => f.name == name) = none := by
    rw [← file?_of_dir? hd]
    exact fileExists_eq_false.mp new
  have mapped : (created letter name h).dir? letter = _ := dir?_mapFiles (h := { h with draws := h.draws + 1 }) _
  rw [show HostEnv.dir? { h with draws := h.draws + 1 } letter = some d from hd] at mapped
  rw [file?_of_dir? mapped]
  exact find?_insertAt (p := fun f : HostFile => f.name == name) (beq_self_eq_true name) none _

theorem fileExists_created (there : h.dirExists letter = true) (new : h.fileExists letter name = false) :
    (created letter name h).fileExists letter name = true := by
  rw [fileExists, created_file? there new]
  rfl

end HostEnv

/-! ## The handle pool (R124) -/

theorem handle?_cons (k : Nat) (q : HandleRec) (hs : List (Nat × HandleRec)) (j : Nat) :
    handle? ((k, q) :: hs) j = if k = j then some q else handle? hs j := by
  by_cases h : k = j <;> simp [handle?, h]

theorem handle?_setHandle (h : Nat) (r : HandleRec) (hs : List (Nat × HandleRec)) :
    handle? (setHandle h r hs) h = some r := by
  induction hs with
  | nil => simp [setHandle, handle?]
  | cons p hs ih =>
    obtain ⟨k, q⟩ := p
    rw [setHandle]
    split
    · rw [handle?_cons, if_pos rfl]
    · split
      · rw [handle?_cons, if_pos rfl]
      next hk => rw [handle?_cons, if_neg (Ne.symm hk), ih]

theorem handle?_setHandle_ne {h j : Nat} (hj : j ≠ h) (r : HandleRec) (hs : List (Nat × HandleRec)) :
    handle? (setHandle h r hs) j = handle? hs j := by
  induction hs with
  | nil => simp [setHandle, handle?, Ne.symm hj]
  | cons p hs ih =>
    obtain ⟨k, q⟩ := p
    rw [setHandle]
    split
    · rw [handle?_cons, if_neg (Ne.symm hj)]
    · split
      next hk =>
        subst hk
        rw [handle?_cons, handle?_cons, if_neg (Ne.symm hj), if_neg (Ne.symm hj)]
      next => rw [handle?_cons, handle?_cons, ih]

theorem handle?_dropHandle (h : Nat) (hs : List (Nat × HandleRec)) : handle? (dropHandle h hs) h = none := by
  simp [handle?, dropHandle]

theorem handle?_dropHandle_ne {h j : Nat} (hj : j ≠ h) (hs : List (Nat × HandleRec)) :
    handle? (dropHandle h hs) j = handle? hs j := by
  induction hs with
  | nil => rfl
  | cons p hs ih =>
    obtain ⟨k, q⟩ := p
    by_cases hk : k = h
    · subst hk
      rw [handle?_cons, if_neg (Ne.symm hj), ← ih]
      simp [dropHandle]
    · rw [handle?_cons, ← ih]
      simp [dropHandle, hk, handle?_cons]

/-! ## How F_OPEN, F_MAKE and F_CLOSE end -/

/-- What a call that answers 0xFF leaves: no iterator, memory and the rest of the ambient state kept. -/
def Declines (s t : State) : Prop := Answers 0xFF t ∧ t.amb = noSearch s.amb ∧ TrapEnds [.reg .a, .reg .l] [] s t

/-- What a call that changes HANDLES to `hs` and writes the FCB's handle word `k` leaves (R1322). -/
structure SetsHandle (hs : List (Nat × HandleRec)) (k : Nat) (e : HostEnv) (s t : State) : Prop where
  answers : Answers 0x00 t
  amb : t.amb = { noSearch s.amb with handles := hs }
  word : (t.peek16 (s.de + 16)).toNat = k
  host : t.host = e
  ends : TrapEnds [.reg .a, .reg .l] (twoBytes (s.de + 16)) s t

section
variable {s : State} {fn : Byte} {run : State → TrapResult} {e : HostEnv}

theorem bdos_declines (h : AtTrap 0x0005 s) (hc : s.cpu.c = fn)
    (hu : run s.cleared = answer 0xFF { s.cleared with host := e }) (hf : bdosFunction fn = some run := by rfl)
    (hn : fn ≠ 0x12 := by decide) : ∃ t, step s = .next t ∧ Declines s t ∧ t.host = e := by
  obtain ⟨t, ht, answers, hfrom⟩ := bdos_answers (st := []) h hc hu hf hn
  exact ⟨t, ht, ⟨answers, hfrom.amb, hfrom.ends⟩, hfrom.host⟩

theorem bdos_setsHandle {hs : List (Nat × HandleRec)} {k : Nat} (h : AtTrap 0x0005 s) (hw : s.mem.wf = true)
    (hk : k < 65536) (hc : s.cpu.c = fn)
    (hu : run s.cleared = answer 0x00
      (State.setFcbHandle k { s with host := e, amb := { noSearch s.amb with handles := hs } }))
    (hf : bdosFunction fn = some run := by rfl) (hn : fn ≠ 0x12 := by decide) :
    ∃ t, step s = .next t ∧ SetsHandle hs k e s t := by
  obtain ⟨t, ht, answers, hfrom⟩ := bdos_answers (st := twoBytes (s.de + 16)) h hc hu hf hn
    ⟨rfl, rfl, rfl⟩ fun a ha => by
    simp only [twoBytes, List.mem_cons, List.not_mem_nil, or_false, not_or] at ha
    exact Memory.read_write16_ne s.mem _ ha.1 ha.2
  refine ⟨t, ht, answers, hfrom.amb, ?_, hfrom.host, hfrom.ends⟩
  have word : t.peek16 (s.de + 16) = BitVec.ofNat 16 k := by
    rw [State.peek16, hfrom.mem]
    exact Memory.read16_write16 hw _ _
  rw [word, BitVec.toNat_ofNat, Nat.mod_eq_of_lt hk]

/-- F_OPEN and F_MAKE, once the host has answered, with a handle free. -/
theorem bdos_takesHandle {d : Fin 16} {name : List Byte} {fid k : Nat} (h : AtTrap 0x0005 s) (hw : s.mem.wf = true)
    (hk : k < 65536) (free : s.freeHandle = some k) (hc : s.cpu.c = fn)
    (hu : run s.cleared = takeHandle d name fid { s.cleared with host := e })
    (hf : bdosFunction fn = some run := by rfl) (hn : fn ≠ 0x12 := by decide) :
    ∃ t, step s = .next t ∧
      SetsHandle (setHandle k { drive := d, hostName := name, pos := 0, fid := fid } s.amb.handles) k e s t := by
  refine bdos_setsHandle h hw hk hc (hu.trans ?_) hf hn
  rw [takeHandle, show State.freeHandle { s.cleared with host := e } = some k from free]
  rfl

/-- F_OPEN and F_MAKE, once the host has answered, with every handle taken: the new file is closed again. -/
theorem bdos_poolExhausted {d : Fin 16} {name : List Byte} {fid : Nat} (h : AtTrap 0x0005 s) (full : s.freeHandle = none)
    (hc : s.cpu.c = fn) (hu : run s.cleared = takeHandle d name fid { s.cleared with host := e }) (ok : e.fails = [])
    (hf : bdosFunction fn = some run := by rfl) (hn : fn ≠ 0x12 := by decide) :
    ∃ t, step s = .next t ∧ Declines s t ∧ t.host = { e with opened := e.opened.filter fun o => o.fid != fid } := by
  refine bdos_declines h hc (hu.trans ?_) hf hn
  rw [takeHandle, show State.freeHandle { s.cleared with host := e } = none from full]
  simp only [State.withHost, HostEnv.closeFile_ok ok]
  rfl

end

/-! ## The branches of the three functions -/

section
variable {s : State} {d : Fin 16} {fid : Nat} {e : HostEnv} {r : HandleRec}

theorem bdosOpen_no_drive (hd : s.fcbDrive = none) : bdosOpen s = answer 0xFF s := by simp [bdosOpen, hd]

theorem bdosOpen_err (hd : s.fcbDrive = some d)
    (ho : s.host.openFile (driveLetter d) (cpmToHost s.fcbName) = (none, e)) :
    bdosOpen s = answer 0xFF { s with host := e } := by simp [bdosOpen, hd, ho]

theorem bdosOpen_ok (hd : s.fcbDrive = some d)
    (ho : s.host.openFile (driveLetter d) (cpmToHost s.fcbName) = (some fid, e)) :
    bdosOpen s = takeHandle d (cpmToHost s.fcbName) fid { s with host := e } := by simp [bdosOpen, hd, ho]

theorem bdosMake_no_drive (hd : s.fcbDrive = none) : bdosMake s = answer 0xFF s := by simp [bdosMake, hd]

theorem bdosMake_exists (hd : s.fcbDrive = some d)
    (there : s.host.fileExists (driveLetter d) (cpmToHost s.fcbName) = true) :
    bdosMake s = answer 0xFF s := by simp [bdosMake, hd, there]

theorem bdosMake_err (hd : s.fcbDrive = some d)
    (new : s.host.fileExists (driveLetter d) (cpmToHost s.fcbName) = false)
    (ho : s.host.createFile (driveLetter d) (cpmToHost s.fcbName) = (none, e)) :
    bdosMake s = answer 0xFF { s with host := e } := by simp [bdosMake, hd, new, ho]

theorem bdosMake_ok (hd : s.fcbDrive = some d)
    (new : s.host.fileExists (driveLetter d) (cpmToHost s.fcbName) = false)
    (ho : s.host.createFile (driveLetter d) (cpmToHost s.fcbName) = (some fid, e)) :
    bdosMake s = takeHandle d (cpmToHost s.fcbName) fid { s with host := e } := by simp [bdosMake, hd, new, ho]

theorem bdosClose_no_handle (hr : handle? s.amb.handles s.fcbHandle = none) : bdosClose s = answer 0xFF s := by
  simp [bdosClose, hr]

theorem bdosClose_err (hr : handle? s.amb.handles s.fcbHandle = some r) (ho : s.host.closeFile r.fid = (false, e)) :
    bdosClose s = answer 0xFF { s with host := e } := by simp [bdosClose, hr, ho]

theorem bdosClose_ok (hr : handle? s.amb.handles s.fcbHandle = some r) (ho : s.host.closeFile r.fid = (true, e)) :
    bdosClose s = answer 0x00 ((State.withAmb (fun a => { a with handles := dropHandle s.fcbHandle a.handles })
      { s with host := e }).setFcbHandle 0) := by simp [bdosClose, hr, ho]

end

/-! ## O56 -/

/-- F_OPEN and F_MAKE have put handle `k` in the FCB, on the file `name` of drive `d` (R1338, R1346). -/
theorem SetsHandle.opens {s t : State} {e : HostEnv} {k : Nat} {r : HandleRec} {letter : Byte} {name : List Byte}
    (sets : SetsHandle (setHandle k r s.amb.handles) k e s t) (there : e.fileExists letter name = true) :
    Answers 0x00 t ∧ handle? t.amb.handles k = some r ∧
      (∀ j, j ≠ k → handle? t.amb.handles j = handle? s.amb.handles j) ∧
      t.amb = { noSearch s.amb with handles := t.amb.handles } ∧ (t.peek16 (s.de + 16)).toNat = k ∧
      t.host.fileExists letter name = true ∧ TrapEnds [.reg .a, .reg .l] (twoBytes (s.de + 16)) s t := by
  obtain ⟨answers, amb, word, host, ends⟩ := sets
  refine ⟨answers, ?_, fun j hj => ?_, ?_, word, host ▸ there, ends⟩
  · rw [amb]
    exact handle?_setHandle k r _
  · rw [amb]
    exact handle?_setHandle_ne hj r _
  · rw [amb]

section
variable {s : State} {d : Fin 16} (h : AtTrap 0x0005 s) (ok : s.host.fails = []) (hd : s.fcbDrive = some d)
include h ok hd

theorem step_bdosOpen_full (hc : s.cpu.c = 0x0F)
    (there : s.host.fileExists (driveLetter d) (cpmToHost s.fcbName) = true) (full : s.freeHandle = none) :
    ∃ t, step s = .next t ∧ Declines s t ∧ t.host.dirs = s.host.dirs ∧ t.host.openFile? s.host.nextFid = none ∧
      ∀ j, j ≠ s.host.nextFid → t.host.openFile? j = s.host.openFile? j := by
  obtain ⟨t, ht, declines, host⟩ :=
    bdos_poolExhausted h full hc (bdosOpen_ok (s := s.cleared) hd (HostEnv.openFile_ok ok there)) ok
  refine ⟨t, ht, declines, ?_⟩
  rw [host]
  refine ⟨rfl, HostEnv.openFile?_closed _ _, fun j hj => (HostEnv.openFile?_closed_ne hj _).trans ?_⟩
  exact HostEnv.openFile?_opening_ne hj

theorem step_bdosMake_full (hc : s.cpu.c = 0x16) (dir : s.host.dirExists (driveLetter d) = true)
    (new : s.host.fileExists (driveLetter d) (cpmToHost s.fcbName) = false) (full : s.freeHandle = none) :
    ∃ t, step s = .next t ∧ Declines s t ∧
      t.host.file? (driveLetter d) (cpmToHost s.fcbName) = some { name := cpmToHost s.fcbName, data := [] } ∧
      t.host.openFile? s.host.nextFid = none ∧
      ∀ j, j ≠ s.host.nextFid → t.host.openFile? j = s.host.openFile? j := by
  obtain ⟨t, ht, declines, host⟩ :=
    bdos_poolExhausted h full hc (bdosMake_ok (s := s.cleared) hd new (HostEnv.createFile_ok ok dir new)) ok
  refine ⟨t, ht, declines, ?_⟩
  rw [host]
  refine ⟨HostEnv.created_file? dir new, HostEnv.openFile?_closed _ _, fun j hj =>
    (HostEnv.openFile?_closed_ne hj _).trans ?_⟩
  exact HostEnv.openFile?_opening_ne hj

end

theorem step_bdosClose_ok {s : State} {k : Nat} {r : HandleRec} (h : AtTrap 0x0005 s) (hw : s.mem.wf = true)
    (ok : s.host.fails = []) (hc : s.cpu.c = 0x10) (hk : s.fcbHandle = k) (hr : handle? s.amb.handles k = some r) :
    ∃ t, step s = .next t ∧ Answers 0x00 t ∧ handle? t.amb.handles k = none ∧
      (∀ j, j ≠ k → handle? t.amb.handles j = handle? s.amb.handles j) ∧
      t.amb = { noSearch s.amb with handles := t.amb.handles } ∧ (t.peek16 (s.de + 16)).toNat = 0 ∧
      t.host.openFile? r.fid = none ∧ TrapEnds [.reg .a, .reg .l] (twoBytes (s.de + 16)) s t := by
  subst hk
  obtain ⟨t, ht, answers, amb, word, host, ends⟩ := bdos_setsHandle (hs := dropHandle s.fcbHandle s.amb.handles) h hw
    (Nat.zero_lt_succ _) hc (bdosClose_ok (s := s.cleared) hr (HostEnv.closeFile_ok ok r.fid))
  refine ⟨t, ht, answers, ?_, fun j hj => ?_, ?_, word, ?_, ends⟩
  · rw [amb]
    exact handle?_dropHandle _ _
  · rw [amb]
    exact handle?_dropHandle_ne hj _
  · rw [amb]
  · rw [host]
    exact HostEnv.openFile?_closed _ _

/-- Settles O56, branch by branch of the three functions: what the host answers, and what the handle pool has free. -/
theorem openMakeAndClose : Obligations.OpenMakeAndClose := by
  unfold Obligations.OpenMakeAndClose
  intro s d k h hw hk name there opens declines fails
  refine ⟨fun ok => ⟨?_, ?_, ?_, ?_, ?_, ?_, ?_⟩, ?_, ?_, ?_, ?_⟩
  · intro hc hd ht free
    obtain ⟨t, hs, sets⟩ := bdos_takesHandle h hw hk free hc (bdosOpen_ok (s := s.cleared) hd (HostEnv.openFile_ok ok ht))
    exact ⟨t, hs, sets.opens ht⟩
  · intro hc hd ht
    exact bdos_declines h hc (bdosOpen_err (s := s.cleared) hd (HostEnv.openFile_missing ok ht))
  · exact fun hc hd ht full => step_bdosOpen_full h ok hd hc ht full
  · intro hc hd dir ht free
    obtain ⟨t, hs, sets⟩ :=
      bdos_takesHandle h hw hk free hc (bdosMake_ok (s := s.cleared) hd ht (HostEnv.createFile_ok ok dir ht))
    exact ⟨t, hs, sets.opens (HostEnv.fileExists_created dir ht)⟩
  · intro hc hd dir
    have new := HostEnv.fileExists_eq_false.mpr (HostEnv.file?_no_dir dir name)
    exact bdos_declines h hc (bdosMake_err (s := s.cleared) hd new (HostEnv.createFile_no_dir ok dir name))
  · exact fun hc hd dir ht full => step_bdosMake_full h ok hd hc dir ht full
  · exact fun r hc hf hr => step_bdosClose_ok h hw ok hc hf hr
  · exact fun hc hd ht => bdos_declines h hc (bdosMake_exists (s := s.cleared) hd ht)
  · rintro (hc | hc) hd
    · exact bdos_declines h hc (bdosOpen_no_drive (s := s.cleared) hd)
    · exact bdos_declines h hc (bdosMake_no_drive (s := s.cleared) hd)
  · intro hc hf hr
    exact bdos_declines h hc (bdosClose_no_handle (s := s.cleared) (hf ▸ hr))
  · rintro more he (⟨hc, hd⟩ | ⟨hc, hd, ht⟩ | ⟨hc, r, hr⟩)
    · exact bdos_declines h hc (bdosOpen_err (s := s.cleared) hd (HostEnv.openFile_err he _ _))
    · exact bdos_declines h hc (bdosMake_err (s := s.cleared) hd ht (HostEnv.createFile_err he _ _))
    · exact bdos_declines h hc (bdosClose_err (s := s.cleared) hr (HostEnv.closeFile_err he r.fid))

end Sys2Proof.Machine

/-! SUPPORT. O57: F_READ and F_WRITE (49_cpm_traps.md R1344, R1345, R1321). -/

namespace Sys2Proof.Machine

namespace HostEnv

variable {h : HostEnv} {letter : Byte} {name : List Byte}

/-- The contents of file `o.name` replaced: the file is found with the new contents. -/
theorem file?_mapFiles_data {f : HostFile} (hf : h.file? letter name = some f) (data : List Byte) :
    (h.mapFiles letter (updateFirst (fun g => g.name == name) fun g => { g with data := data })).file? letter name =
      some { f with data := data } := by
  rw [file?] at hf
  obtain ⟨d, hd, hfile⟩ := Option.bind_eq_some_iff.mp hf
  have mapped := dir?_mapFiles (h := h) (letter := letter)
    (updateFirst (fun g => g.name == name) fun g => { g with data := data })
  rw [hd] at mapped
  rw [file?_of_dir? mapped]
  refine (find?_updateFirst_same (p := fun g : HostFile => g.name == name)
    (f := fun g => { g with data := data }) (fun _ => rfl) d.files).trans ?_
  rw [hfile]
  rfl

/-- Every other file, of that directory and of the others, is as it was. -/
theorem file?_mapFiles_data_ne {l : Byte} {n : List Byte} (ne : l ≠ letter ∨ n ≠ name) (data : List Byte) :
    (h.mapFiles letter (updateFirst (fun g => g.name == name) fun g => { g with data := data })).file? l n = h.file? l n := by
  by_cases hl : l = letter
  · subst hl
    have hn : n ≠ name := ne.resolve_left fun no => no rfl
    rw [file?, file?, dir?_mapFiles]
    cases h.dir? l with
    | none => rfl
    | some d =>
      refine find?_updateFirst_other (p := fun g : HostFile => g.name == name) (fun g hg => ?_) d.files
      have hg : g.name = name := beq_iff_eq.mp hg
      simp [hg, Ne.symm hn]
  · rw [file?, file?, dir?_mapFiles_ne hl]

/-- A write that starts within the file needs no free bytes (log 14). -/
theorem overwrite_within {data new : List Byte} {pos : Nat} (hp : pos ≤ data.length) (k : Nat) :
    overwrite data pos new k = data.take pos ++ new ++ data.drop (pos + new.length) := by
  rw [overwrite, Nat.sub_eq_zero_of_le hp, freeBytes, List.append_nil]

theorem overwrite_new {data new : List Byte} {pos j : Nat} (hp : pos ≤ data.length) (hj : j < new.length) (k : Nat) :
    (overwrite data pos new k)[pos + j]? = new[j]? := by
  rw [overwrite_within hp, List.getElem?_append_left (by simp; omega), List.getElem?_append_right (by simp)]
  simp [Nat.min_eq_left hp]

theorem overwrite_outside {data new : List Byte} {pos j : Nat} (hp : pos ≤ data.length)
    (hj : j < pos ∨ pos + new.length ≤ j) (k : Nat) : (overwrite data pos new k)[j]? = data[j]? := by
  rw [overwrite_within hp]
  rcases hj with hj | hj
  · rw [List.getElem?_append_left (by simp; omega), List.getElem?_append_left (by simp; omega), List.getElem?_take_of_lt hj]
  · rw [List.getElem?_append_right (by simp; omega), List.getElem?_drop]
    congr 1
    simp
    omega

/-- The host after a write to a live open file at a position within it. -/
def written (o : OpenFile) (f : HostFile) (pos : Nat) (new : List Byte) (h : HostEnv) : HostEnv :=
  h.mapFiles o.letter (updateFirst (fun g => g.name == o.name) fun g => { g with data := overwrite f.data pos new h.draws })

theorem writeFile_ok {fid pos : Nat} {o : OpenFile} {f : HostFile} (e : h.fails = []) (ho : h.openFile? fid = some o)
    (live : o.live = true) (hf : h.file? o.letter o.name = some f) (hp : pos ≤ f.data.length) (new : List Byte) :
    writeFile fid pos new h = (true, written o f pos new h) := by
  simp [writeFile, failing_nil e, ho, fileOf_live live, hf, Nat.sub_eq_zero_of_le hp, written]

end HostEnv

/-! ## The branches of the two functions -/

section
variable {s : State} {r : HandleRec} {e : HostEnv}

theorem bdosRead_no_handle (hr : handle? s.amb.handles s.fcbHandle = none) : bdosRead s = answer 0xFF s := by
  simp [bdosRead, hr]

theorem bdosRead_too_long (hr : handle? s.amb.handles s.fcbHandle = some r) (long : s.dmaTooLong 128 = true) :
    bdosRead s = .fault (s.dmaFault 128) s.host := by simp [bdosRead, hr, long]

theorem bdosRead_err (hr : handle? s.amb.handles s.fcbHandle = some r) (fits : s.dmaTooLong 128 = false)
    (ho : s.host.readFile r.fid r.pos = (none, e)) : bdosRead s = answer 0xFF { s with host := e } := by
  simp [bdosRead, hr, fits, ho]

theorem bdosRead_ok {data : List Byte} (hr : handle? s.amb.handles s.fcbHandle = some r) (fits : s.dmaTooLong 128 = false)
    (ho : s.host.readFile r.fid r.pos = (some data, e)) :
    bdosRead s = answer (readResult s.cfg.partialRecordResult data.length)
      ((State.pokeBytes s.amb.dma (data ++ List.replicate (128 - data.length) 0x00#8) { s with host := e }).advance
        s.fcbHandle r data.length) := by
  simp [bdosRead, hr, fits, ho, State.pokeBytes]

theorem bdosWrite_no_handle (hr : handle? s.amb.handles s.fcbHandle = none) : bdosWrite s = answer 0xFF s := by
  simp [bdosWrite, hr]

theorem bdosWrite_err (hr : handle? s.amb.handles s.fcbHandle = some r)
    (ho : s.host.writeFile r.fid r.pos (s.mem.readBytes 128 s.amb.dma) = (false, e)) :
    bdosWrite s = answer 0xFF { s with host := e } := by simp [bdosWrite, hr, ho]

theorem bdosWrite_ok (hr : handle? s.amb.handles s.fcbHandle = some r)
    (ho : s.host.writeFile r.fid r.pos (s.mem.readBytes 128 s.amb.dma) = (true, e)) :
    bdosWrite s = answer 0x00 (State.advance s.fcbHandle r 128 { s with host := e }) := by simp [bdosWrite, hr, ho]

end

/-! ## O57 -/

theorem dmaTooLong_eq_true {s : State} {n : Nat} : s.dmaTooLong n = true ↔ 0x10000 < s.amb.dma.toNat + n := decide_eq_true_iff

theorem dmaTooLong_eq_false {s : State} {n : Nat} : s.dmaTooLong n = false ↔ s.amb.dma.toNat + n ≤ 0x10000 := by
  rw [State.dmaTooLong, decide_eq_false_iff_not, not_lt]

/-- The record at position `pos`, padded with zeroes (R1344). -/
def record (data : List Byte) (pos : Nat) : List Byte :=
  (data.drop pos).take 128 ++ List.replicate (128 - ((data.drop pos).take 128).length) 0x00#8

theorem record_length (data : List Byte) (pos : Nat) : (record data pos).length = 128 := by
  simp [record]

theorem record_getElem (data : List Byte) (pos : Nat) {j : Nat} (hj : j < (record data pos).length) :
    (record data pos)[j] = data.getD (pos + j) 0 := by
  have hj' := record_length data pos ▸ hj
  by_cases within : pos + j < data.length
  · simp only [record]
    rw [List.getElem_append_left (by simp; omega)]
    simp [within]
  · simp only [record]
    rw [List.getElem_append_right (by simp; omega)]
    simp [List.getD, List.getElem?_eq_none (Nat.le_of_not_lt within)]

/-- The position in HANDLES has advanced by `k` (R1344, R1345). -/
theorem advanced {a : Ambient} {s : State} {h k : Nat} {r : HandleRec}
    (ha : a = { noSearch s.amb with handles := setHandle h { r with pos := r.pos + k } s.amb.handles }) :
    handle? a.handles h = some { r with pos := r.pos + k } ∧
      (∀ j, j ≠ h → handle? a.handles j = handle? s.amb.handles j) ∧
      a = { noSearch s.amb with handles := a.handles } := by
  subst ha
  exact ⟨handle?_setHandle _ _ _, fun j hj => handle?_setHandle_ne hj _ _, rfl⟩

theorem readResult_eq (v : Byte) (k : Nat) :
    readResult v k = if k = 128 then 0x00 else if k = 0 then 0x01 else v := by
  rw [readResult]
  rcases Nat.eq_zero_or_pos k with rfl | hk
  · rfl
  · rw [if_pos hk, if_neg (Nat.ne_of_gt hk)]
    rfl

section
variable {s : State} {r : HandleRec} {o : OpenFile} {f : HostFile} (h : AtTrap 0x0005 s) (hw : s.mem.wf = true)
  (hr : handle? s.amb.handles s.fcbHandle = some r) (ok : s.host.fails = []) (ho : s.host.openFile? r.fid = some o)
  (live : o.live = true) (hf : s.host.file? o.letter o.name = some f)
include h hr ok ho live hf

include hw in
theorem step_bdosRead_ok (hc : s.cpu.c = 0x14) (fits : s.amb.dma.toNat + 128 ≤ 0x10000) {k : Nat}
    (hk : k = min 128 (f.data.length - r.pos)) :
    ∃ t, step s = .next t ∧ Answers (if k = 128 then 0x00 else if k = 0 then 0x01 else s.cfg.partialRecordResult) t ∧
      (∀ j, j < 128 → t.peek (s.amb.dma + BitVec.ofNat 16 j) = f.data.getD (r.pos + j) 0) ∧
      (handle? t.amb.handles s.fcbHandle = some { r with pos := r.pos + k } ∧
        (∀ j, j ≠ s.fcbHandle → handle? t.amb.handles j = handle? s.amb.handles j) ∧
        t.amb = { noSearch s.amb with handles := t.amb.handles }) ∧
      t.host = s.host ∧ TrapEnds [.reg .a, .reg .l] (addresses s.amb.dma 128) s t := by
  have len : ((f.data.drop r.pos).take 128).length = k := by simp [hk]
  obtain ⟨t, ht, answers, host, amb, mem, ends⟩ := bdos_answers (st := addresses s.amb.dma 128) h hc
    (bdosRead_ok (s := s.cleared) hr (dmaTooLong_eq_false.mpr fits)
      (HostEnv.readFile_ok ok ho ((HostEnv.fileOf_live live).trans hf) r.pos))
    rfl (by decide) ⟨rfl, rfl, rfl⟩ fun a ha => peek_pokeBytes_of_not_mem s (Nat.le_of_eq (record_length f.data r.pos)) ha
  rw [len, readResult_eq] at answers
  rw [len] at amb
  refine ⟨t, ht, answers, fun j hj => ?_, advanced amb, host, ends⟩
  have hj : j < (record f.data r.pos).length := (record_length f.data r.pos).symm ▸ hj
  have stored : t.peek (s.amb.dma + BitVec.ofNat 16 j) = _ :=
    (congrArg (Memory.read · _) mem).trans (Memory.read_writeBytes hw (vs := record f.data r.pos)
      (by rw [record_length]; decide) hj)
  rw [stored, record_getElem]

theorem step_bdosWrite_ok (hc : s.cpu.c = 0x15) (hp : r.pos ≤ f.data.length) :
    ∃ t g, step s = .next t ∧ Answers 0x00 t ∧ t.host.file? o.letter o.name = some g ∧ g.name = f.name ∧
      (∀ j, j < 128 → g.data[r.pos + j]? = some (s.peek (s.amb.dma + BitVec.ofNat 16 j))) ∧
      (∀ j, j < r.pos ∨ r.pos + 128 ≤ j → g.data[j]? = f.data[j]?) ∧
      (∀ l n, l ≠ o.letter ∨ n ≠ o.name → t.host.file? l n = s.host.file? l n) ∧
      (handle? t.amb.handles s.fcbHandle = some { r with pos := r.pos + 128 } ∧
        (∀ j, j ≠ s.fcbHandle → handle? t.amb.handles j = handle? s.amb.handles j) ∧
        t.amb = { noSearch s.amb with handles := t.amb.handles }) ∧
      TrapEnds [.reg .a, .reg .l] [] s t := by
  have len : (s.mem.readBytes 128 s.amb.dma).length = 128 := readBytes_length _ _ _
  obtain ⟨t, ht, answers, host, amb, mem, ends⟩ := bdos_answers (st := []) h hc
    (bdosWrite_ok (s := s.cleared) hr (HostEnv.writeFile_ok ok ho live hf hp _))
  let data := HostEnv.overwrite f.data r.pos (s.mem.readBytes 128 s.amb.dma) s.host.draws
  refine ⟨t, { f with data := data }, ht, answers, ?_, rfl, fun j hj => ?_,
    fun j hj => HostEnv.overwrite_outside hp (len.symm ▸ hj) _, fun l n ne => ?_, advanced amb, ends⟩
  · rw [host]
    exact HostEnv.file?_mapFiles_data hf _
  · exact (HostEnv.overwrite_new hp (len.symm ▸ hj) _).trans (Memory.readBytes_getElem? _ _ _ hj)
  · rw [host]
    exact HostEnv.file?_mapFiles_data_ne ne _

end

/-- Settles O57, branch by branch of the two functions: whether the handle is there, the record fits, the host answers. -/
theorem recordsReadAndWritten : Obligations.RecordsReadAndWritten := by
  unfold Obligations.RecordsReadAndWritten
  intro s h hw declines
  refine ⟨?_, fun r hr => ⟨?_, ?_, fun o f ok ho live hf => ⟨?_, ?_⟩⟩⟩
  · rintro (hc | hc) hr
    · exact bdos_declines h hc (bdosRead_no_handle (s := s.cleared) hr)
    · exact bdos_declines h hc (bdosWrite_no_handle (s := s.cleared) hr)
  · intro hc long
    exact bdos_faults h hc (bdosRead_too_long (s := s.cleared) hr (dmaTooLong_eq_true.mpr long))
  · rintro more he (⟨hc, fits⟩ | hc)
    · exact bdos_declines h hc
        (bdosRead_err (s := s.cleared) hr (dmaTooLong_eq_false.mpr fits) (HostEnv.readFile_err he _ _))
    · exact bdos_declines h hc (bdosWrite_err (s := s.cleared) hr (HostEnv.writeFile_err he _ _ _))
  · exact fun hc fits => step_bdosRead_ok h hw hr ok ho live hf hc fits rfl
  · exact fun hc hp => step_bdosWrite_ok h hr ok ho live hf hc hp

end Sys2Proof.Machine

/-! SUPPORT. O58: F_SFIRST, F_SNEXT and F_DELETE (49_cpm_traps.md R1340 to R1343, R1321). -/

namespace Sys2Proof.Machine

/-! ## Removing a file (R1343) -/

section
variable {α : Type} {p q : α → Bool}

/-- A search for another element does not see that one was taken out. -/
theorem find?_eraseP_other (h : ∀ x, p x = true → q x = false) (xs : List α) :
    (xs.eraseP p).find? q = xs.find? q := by
  induction xs with
  | nil => rfl
  | cons x xs ih =>
    cases hx : p x
    case false => simp [hx, List.find?_cons, ih]
    case true => simp [hx, h x hx]

end

/-- Where no two files share a name, the name is gone once its file is taken out. -/
theorem find?_eraseP_name (name : List Byte) {fs : List HostFile} (distinct : (fs.map (·.name)).Nodup) :
    (fs.eraseP fun f => f.name == name).find? (fun f => f.name == name) = none := by
  induction fs with
  | nil => rfl
  | cons f fs ih =>
    obtain ⟨alone, distinct⟩ := List.nodup_cons.mp distinct
    by_cases hf : f.name = name
    · subst hf
      rw [List.eraseP_cons_of_pos (p := fun g : HostFile => g.name == f.name) (beq_self_eq_true f.name), List.find?_eq_none]
      intro g hg same
      exact alone (List.mem_map.mpr ⟨g, hg, beq_iff_eq.mp same⟩)
    · simp [hf, ih distinct]

namespace HostEnv

variable {h : HostEnv} {letter : Byte} {name : List Byte}

/-- The host without file `name`; an open file object on it is no longer live (D45). -/
def removed (letter : Byte) (name : List Byte) (h : HostEnv) : HostEnv :=
  { h.mapFiles letter (·.eraseP (fun f => f.name == name)) with
    opened := h.opened.map fun o => if o.letter == letter && o.name == name then { o with live := false } else o }

theorem removeFile_ok (e : h.fails = []) (there : h.fileExists letter name = true) :
    removeFile letter name h = (true, removed letter name h) := by
  simp [removeFile, failing_nil e, there, removed, mapFiles]

theorem dir?_removed : (removed letter name h).dir? letter =
    (h.dir? letter).map fun d => { d with files := d.files.eraseP fun f => f.name == name } := dir?_mapFiles _

theorem fileExists_removed {dir : HostDir} (hd : h.dir? letter = some dir) (distinct : (dir.files.map (·.name)).Nodup) :
    (removed letter name h).fileExists letter name = false := by
  have gone := dir?_removed (letter := letter) (name := name) (h := h)
  rw [hd] at gone
  rw [fileExists_eq_false, file?_of_dir? gone]
  exact find?_eraseP_name name distinct

theorem file?_removed_ne {l : Byte} {n : List Byte} (ne : l ≠ letter ∨ n ≠ name) :
    (removed letter name h).file? l n = h.file? l n := by
  by_cases hl : l = letter
  · subst hl
    have hn : n ≠ name := ne.resolve_left fun no => no rfl
    rw [file?, file?, dir?_removed]
    cases h.dir? l with
    | none => rfl
    | some d =>
      refine find?_eraseP_other (p := fun g : HostFile => g.name == name) (fun g hg => ?_) d.files
      have hg : g.name = name := beq_iff_eq.mp hg
      simp [hg, Ne.symm hn]
  · exact congrArg (fun d => Option.bind d _) (dir?_mapFiles_ne hl _)

theorem listDir_dir {dir : HostDir} (e : h.fails = []) (hd : h.dir? letter = some dir) :
    h.listDir letter = (some (dir.files.map (·.name)), h) := by
  rw [listDir_ok e, hd]
  rfl

theorem fileExists_of_mem {dir : HostDir} (hd : h.dir? letter = some dir) (hn : name ∈ dir.files.map (·.name)) :
    h.fileExists letter name = true := by
  obtain ⟨f, hf, hname⟩ := List.mem_map.mp hn
  rw [fileExists, file?_of_dir? hd, List.find?_isSome]
  exact ⟨f, hf, beq_iff_eq.mpr hname⟩

end HostEnv

theorem mem_of_mem_matchesOf {filt : List Byte} {names : List (List Byte)} {m : List Byte × List Byte}
    (hm : m ∈ matchesOf filt names) : m.1 ∈ names := by
  obtain ⟨n, hn, hsome⟩ := List.mem_filterMap.mp hm
  split at hsome
  · split at hsome
    · cases hsome
      exact hn
    · cases hsome
  · cases hsome

/-! ## The image of a search (R1340, R1321) -/

theorem dmaWrite_fits {bytes : List Byte} {s : State} (fits : s.amb.dma.toNat + bytes.length ≤ 0x10000)
    (rest : State → TrapResult) : dmaWrite bytes s rest = rest (s.pokeBytes s.amb.dma bytes) := by
  rw [dmaWrite, dmaTooLong_eq_false.mpr fits]
  rfl

theorem dmaWrite_too_long {bytes : List Byte} {s : State} (long : 0x10000 < s.amb.dma.toNat + bytes.length)
    (rest : State → TrapResult) : dmaWrite bytes s rest = .fault (s.dmaFault bytes.length) s.host := by
  rw [dmaWrite, dmaTooLong_eq_true.mpr long]
  rfl

theorem dirImage_length {name : List Byte} (hc : name.length = 11) (db : Byte) : (dirImage db name).length = 32 := by
  simp [dirImage, hc]

/-- The bytes of an image in memory: the drive byte, the name, twenty zeroes (R1340). -/
theorem image_bytes {m : Memory} (hw : m.wf = true) {name : List Byte} (hc : name.length = 11) (db : Byte) (a : Word) :
    (m.writeBytes a (dirImage db name)).read a = db ∧
      (∀ j, (hj : j < name.length) → (m.writeBytes a (dirImage db name)).read (a + 1 + BitVec.ofNat 16 j) = name[j]) ∧
      ∀ j, j < 20 → (m.writeBytes a (dirImage db name)).read (a + 12 + BitVec.ofNat 16 j) = 0 := by
  have len := dirImage_length hc db
  have stored {k : Nat} (hk : k < 32) :
      (m.writeBytes a (dirImage db name)).read (a + BitVec.ofNat 16 k) = (dirImage db name)[k]'(len.symm ▸ hk) :=
    Memory.read_writeBytes hw (by rw [len]; decide) (len.symm ▸ hk)
  refine ⟨?_, fun j hj => ?_, fun j hj => ?_⟩
  · exact (congrArg _ (BitVec.add_zero a).symm).trans (stored (k := 0) (by decide))
  · rw [add_one_add_ofNat, stored (by omega)]
    simp [dirImage, hj]
  · have place : a + 12 + BitVec.ofNat 16 j = a + BitVec.ofNat 16 (12 + j) := by
      rw [BitVec.add_assoc, BitVec.ofNat_add]
      rfl
    rw [place, stored (by omega)]
    exact (List.getElem_append_right (as := db :: name) (by simp; omega)).trans (List.getElem_replicate _)

/-- What a search call that writes the image of `name` at DMA leaves. -/
structure Lists (db : Byte) (name : List Byte) (s t : State) : Prop where
  drive : t.peek s.amb.dma = db
  named : ∀ j, (h : j < name.length) → t.peek (s.amb.dma + 1 + BitVec.ofNat 16 j) = name[j]
  zeroes : ∀ j, j < 20 → t.peek (s.amb.dma + 12 + BitVec.ofNat 16 j) = 0
  ends : TrapEnds [.reg .a, .reg .l] (addresses s.amb.dma 32) s t

/-- The end of F_SFIRST and F_SNEXT once the image is written (R1341, R1342). -/
def listed (it : Search) : State → TrapResult := fun u =>
  answer 0x00 (u.withAmb fun a => { a with search := some it })

/-- The state F_SFIRST and F_SNEXT start from: `s` with the iterator there is then (R1313). -/
def State.searching (search : Option Search) (s : State) : State := s.withAmb fun a => { a with search := search }

section
variable {s : State} {fn db : Byte} {run : State → TrapResult} {name : List Byte} {search : Option Search} {it : Search}
  (h : AtTrap 0x0005 s) (hc : s.cpu.c = fn) (hlen : name.length = 11)
  (hu : run (invalidateSearch fn s) = dmaWrite (dirImage db name) (s.searching search) (listed it))
  (hf : bdosFunction fn = some run)
include h hc hlen hu hf

theorem step_lists (hw : s.mem.wf = true) (fits : s.amb.dma.toNat + 32 ≤ 0x10000) :
    ∃ t, step s = .next t ∧ Answers 0x00 t ∧ Lists db name s t ∧ t.host = s.host ∧
      t.amb = { s.amb with search := some it } := by
  have len := dirImage_length hlen db
  rw [dmaWrite_fits (by rw [len]; exact fits)] at hu
  obtain ⟨t, ht, answers, host, amb, mem, ends⟩ := trapFrom_answer (st := addresses s.amb.dma 32) h.running
    ((step_bdos h).trans ((bdosTrap_eq hc hf).trans (congrArg _ hu))) ⟨rfl, rfl, rfl⟩
    fun a ha => peek_pokeBytes_of_not_mem s (Nat.le_of_eq len) ha
  obtain ⟨drive, named, zeroes⟩ := image_bytes hw hlen db s.amb.dma
  have read (a : Word) : t.peek a = (s.mem.writeBytes s.amb.dma (dirImage db name)).read a :=
    congrArg (Memory.read · a) mem
  exact ⟨t, ht, answers, ⟨(read _).trans drive, fun j hj => (read _).trans (named j hj),
    fun j hj => (read _).trans (zeroes j hj), ends⟩, host, amb⟩

theorem step_list_overflows (long : ¬ s.amb.dma.toNat + 32 ≤ 0x10000) :
    ∃ t, step s = .next t ∧ FaultsWith (.dmaOverflow 0x0005 s.amb.dma 32) s t ∧ t.host = s.host := by
  have len := dirImage_length hlen db
  rw [dmaWrite_too_long (by rw [len]; exact not_le.mp long), State.dmaFault, len] at hu
  exact trapFrom_fault ((step_bdos h).trans ((bdosTrap_eq hc hf).trans (congrArg _ hu)))

end

/-! ## The branches of the three functions -/

section
variable {s : State} {d : Fin 16} {e : HostEnv} {names : List (List Byte)} {m : List Byte × List Byte}
  {ms : List (List Byte × List Byte)}

theorem bdosSearchFirst_no_drive (hd : s.fcbDrive = none) : bdosSearchFirst s = answer 0xFF s := by
  simp [bdosSearchFirst, hd]

theorem bdosSearchFirst_unlisted (hd : s.fcbDrive = some d) (hl : s.host.listDir (driveLetter d) = (none, e)) :
    bdosSearchFirst s = answer 0xFF { s with host := e } := by simp [bdosSearchFirst, hd, hl]

theorem bdosSearchFirst_no_match (hd : s.fcbDrive = some d) (hl : s.host.listDir (driveLetter d) = (some names, e))
    (hm : matchesOf s.fcbName names = []) : bdosSearchFirst s = answer 0xFF { s with host := e } := by
  simp [bdosSearchFirst, hd, hl, hm]

theorem bdosSearchFirst_match (hd : s.fcbDrive = some d) (hl : s.host.listDir (driveLetter d) = (some names, e))
    (hm : matchesOf s.fcbName names = m :: ms) :
    bdosSearchFirst s = dmaWrite (dirImage (s.fcbByte 0) m.2) { s with host := e }
      (listed { driveByte := s.fcbByte 0, drive := d, filter := s.fcbName, remaining := ms.map (·.2) }) := by
  simp only [bdosSearchFirst, hd, hl, hm]
  rfl

theorem bdosDelete_no_drive (hd : s.fcbDrive = none) : bdosDelete s = answer 0xFF s := by
  simp [bdosDelete, hd]

theorem bdosDelete_unlisted (hd : s.fcbDrive = some d) (hl : s.host.listDir (driveLetter d) = (none, e)) :
    bdosDelete s = answer 0xFF { s with host := e } := by simp [bdosDelete, hd, hl]

theorem bdosDelete_no_match (hd : s.fcbDrive = some d) (hl : s.host.listDir (driveLetter d) = (some names, e))
    (hm : matchesOf s.fcbName names = []) : bdosDelete s = answer 0xFF { s with host := e } := by
  simp [bdosDelete, hd, hl, hm, removeAll]

theorem bdosDelete_match {u : HostEnv} (hd : s.fcbDrive = some d) (hl : s.host.listDir (driveLetter d) = (some names, e))
    (hm : matchesOf s.fcbName names = [m]) (ok : e.removeFile (driveLetter d) m.1 = (true, u)) :
    bdosDelete s = answer 0x00 { s with host := u } := by
  simp [bdosDelete, hd, hl, hm, removeAll, ok]

theorem bdosSearchNext_no_search (hs : s.amb.search = none) : bdosSearchNext s = answer 0xFF s := by
  simp [bdosSearchNext, hs]

theorem bdosSearchNext_end {it : Search} (hs : s.amb.search = some it) (hr : it.remaining = []) :
    bdosSearchNext s = answer 0xFF s.cleared := by
  simp [bdosSearchNext, hs, hr]
  rfl

theorem bdosSearchNext_next {it : Search} {c : List Byte} {cs : List (List Byte)} (hs : s.amb.search = some it)
    (hr : it.remaining = c :: cs) :
    bdosSearchNext s = dmaWrite (dirImage it.driveByte c) s (listed { it with remaining := cs }) := by
  simp only [bdosSearchNext, hs, hr]
  rfl

end

/-! ## O58 -/

section
variable {s : State} {d : Fin 16} (h : AtTrap 0x0005 s)
include h

section
variable {e : HostEnv} (drive : s.fcbDrive = some d)
  (hl : s.host.listDir (driveLetter d) = (none, e) ∨
    ∃ names, s.host.listDir (driveLetter d) = (some names, e) ∧ matchesOf s.fcbName names = [])
include drive hl

/-- F_SFIRST and F_DELETE where nothing can be listed, or nothing matches. -/
theorem search_or_delete_declines (hc : s.cpu.c = 0x11 ∨ s.cpu.c = 0x13) :
    ∃ t, step s = .next t ∧ Declines s t ∧ t.host = e := by
  rcases hc with hc | hc <;> rcases hl with hl | ⟨names, hl, hm⟩
  · exact bdos_declines h hc (bdosSearchFirst_unlisted (s := s.cleared) drive hl)
  · exact bdos_declines h hc (bdosSearchFirst_no_match (s := s.cleared) drive hl hm)
  · exact bdos_declines h hc (bdosDelete_unlisted (s := s.cleared) drive hl)
  · exact bdos_declines h hc (bdosDelete_no_match (s := s.cleared) drive hl hm)

end

theorem search_or_delete_no_drive (hc : s.cpu.c = 0x11 ∨ s.cpu.c = 0x13) (drive : s.fcbDrive = none) :
    ∃ t, step s = .next t ∧ Declines s t ∧ t.host = s.host := by
  rcases hc with hc | hc
  · exact bdos_declines h hc (bdosSearchFirst_no_drive (s := s.cleared) drive)
  · exact bdos_declines h hc (bdosDelete_no_drive (s := s.cleared) drive)

theorem step_bdosSearchNext_declines (hc : s.cpu.c = 0x12)
    (hs : s.amb.search = none ∨ ∃ it, s.amb.search = some it ∧ it.remaining = []) :
    ∃ t, step s = .next t ∧ Declines s t ∧ t.host = s.host := by
  have ends : bdosSearchNext s = answer 0xFF s.cleared := by
    rcases hs with hs | ⟨it, hs, hr⟩
    · have same : noSearch s.amb = s.amb := by rw [noSearch, ← hs]
      rw [bdosSearchNext_no_search hs, State.cleared, State.withAmb, same]
    · exact bdosSearchNext_end hs hr
  obtain ⟨t, ht, answers, host, amb, -, ends⟩ := trapFrom_answer (st := []) h.running
    ((step_bdos h).trans ((bdosTrap_eq hc rfl).trans (congrArg _ ends)))
  exact ⟨t, ht, ⟨answers, amb, ends⟩, host⟩

variable {dir : HostDir} (ok : s.host.fails = []) (drive : s.fcbDrive = some d)
  (hd : s.host.dir? (driveLetter d) = some dir)
include ok drive hd

theorem step_bdosDelete_one {m : List Byte × List Byte} (hc : s.cpu.c = 0x13)
    (hm : matchesOf s.fcbName (dir.files.map (·.name)) = [m]) (distinct : (dir.files.map (·.name)).Nodup) :
    ∃ t, step s = .next t ∧ Answers 0x00 t ∧ t.host.fileExists (driveLetter d) m.1 = false ∧
      (∀ l n, l ≠ driveLetter d ∨ n ≠ m.1 → t.host.file? l n = s.host.file? l n) ∧
      t.amb = noSearch s.amb ∧ TrapEnds [.reg .a, .reg .l] [] s t := by
  have named : m.1 ∈ dir.files.map (·.name) := mem_of_mem_matchesOf (hm ▸ List.mem_cons_self)
  have there := HostEnv.fileExists_of_mem hd named
  obtain ⟨t, ht, answers, host, amb, -, ends⟩ := bdos_answers (st := []) h hc
    (bdosDelete_match (s := s.cleared) drive (HostEnv.listDir_dir ok hd) hm (HostEnv.removeFile_ok ok there))
  refine ⟨t, ht, answers, ?_, fun l n ne => ?_, amb, ends⟩
  · rw [host]
    exact HostEnv.fileExists_removed hd distinct
  · rw [host]
    exact HostEnv.file?_removed_ne ne

end

/-- Settles O58, branch by branch of the three functions: what the host lists, what matches, and whether the image fits. -/
theorem searchAndDelete : Obligations.SearchAndDelete := by
  unfold Obligations.SearchAndDelete
  intro s d dir m ms h hw fits matchesIn image declines overflows
  refine ⟨fun ok => ⟨?_, ?_, ?_, ?_⟩, ?_, ?_, ?_⟩
  · rintro hc ⟨drive, hd, hm⟩ hfits
    obtain ⟨t, ht, answers, ⟨first, named, zeroes, ends⟩, host, amb⟩ :=
      step_lists (search := none) h hc (matchesOf_length (hm ▸ List.mem_cons_self))
        (bdosSearchFirst_match (s := s.cleared) drive (HostEnv.listDir_dir ok hd) hm) rfl hw hfits
    exact ⟨t, ht, answers, ⟨first, named, zeroes, ends⟩, host, amb⟩
  · rintro hc ⟨drive, hd, hm⟩ long
    exact step_list_overflows (search := none) h hc (matchesOf_length (hm ▸ List.mem_cons_self))
      (bdosSearchFirst_match (s := s.cleared) drive (HostEnv.listDir_dir ok hd) hm) rfl long
  · rintro hc (⟨drive, hd, hm⟩ | ⟨drive, hd⟩ | drive)
    · exact search_or_delete_declines h drive (.inr ⟨_, HostEnv.listDir_dir ok hd, hm⟩) hc
    · exact search_or_delete_declines h drive (.inl (by rw [HostEnv.listDir_ok ok, hd]; rfl)) hc
    · exact search_or_delete_no_drive h hc drive
  · rintro hc ⟨drive, hd, hm⟩ distinct once
    exact step_bdosDelete_one h ok drive hd hc hm (once.map_on distinct)
  · exact fun more he hc drive => search_or_delete_declines h drive (.inl (HostEnv.listDir_err he _)) hc
  · intro it c cs hc hs hlen hr
    refine ⟨fun hfits => ?_, fun long => ?_⟩
    · obtain ⟨t, ht, answers, ⟨first, named, zeroes, ends⟩, host, amb⟩ :=
        step_lists (search := s.amb.search) h hc hlen (bdosSearchNext_next hs hr) rfl hw hfits
      exact ⟨t, ht, answers, ⟨first, named, zeroes, ends⟩, host, amb⟩
    · exact step_list_overflows (search := s.amb.search) h hc hlen (bdosSearchNext_next hs hr) rfl long
  · exact fun hc hs => step_bdosSearchNext_declines h hc hs

end Sys2Proof.Machine

/-! SUPPORT. O59: host names and FCB names (49_cpm_traps.md R1302). -/

namespace Sys2Proof.Machine

/-! ## From a host name to the 11 bytes -/

theorem splitLastDot_no_dot {name : List Byte} (h : 0x2E ∉ name) : splitLastDot name = none := by
  induction name with
  | nil => rfl
  | cons c cs ih =>
    obtain ⟨hc, hcs⟩ := not_or.mp (mt List.mem_cons.mpr h)
    rw [splitLastDot, ih hcs]
    exact if_neg (Ne.symm hc)

theorem splitLastDot_last_dot (base : List Byte) {ext : List Byte} (h : 0x2E ∉ ext) :
    splitLastDot (base ++ 0x2E :: ext) = some (base, ext) := by
  induction base with
  | nil =>
    rw [List.nil_append, splitLastDot, splitLastDot_no_dot h]
    rfl
  | cons c cs ih => rw [List.cons_append, splitLastDot, ih]

theorem hostToCpm_of_split {name base ext : List Byte} (h : (splitLastDot name).getD (name, []) = (base, ext)) :
    hostToCpm name =
      if base.length ≤ 8 ∧ ext.length ≤ 3 then some (padUpper 8 base ++ padUpper 3 ext) else none := by
  rw [hostToCpm, h]
  by_cases fits : base.length ≤ 8 ∧ ext.length ≤ 3
  · rw [if_pos fits]
    exact if_neg (by omega)
  · rw [if_neg fits]
    exact if_pos (by omega)

/-! ## From the 11 bytes to a host name -/

theorem upperByte_ne_space {c : Byte} (h : c ≠ 0x20) : upperByte c ≠ 0x20 := by
  revert c
  decide

theorem trimSpaces_spaces (n : Nat) : trimSpaces (List.replicate n 0x20) = [] := by
  induction n with
  | zero => rfl
  | succ n ih =>
    rw [List.replicate_succ, trimSpaces, ih]
    rfl

theorem trimSpaces_padded {name : List Byte} (h : ∀ c ∈ name, c ≠ 0x20) (n : Nat) :
    trimSpaces (name ++ List.replicate n 0x20) = name := by
  induction name with
  | nil => exact trimSpaces_spaces n
  | cons c cs ih =>
    obtain ⟨hc, hcs⟩ := List.forall_mem_cons.mp h
    rw [List.cons_append, trimSpaces, ih hcs]
    cases cs with
    | nil => exact if_neg hc
    | cons d ds => rfl

theorem trimSpaces_padUpper {name : List Byte} (h : ∀ c ∈ name, c ≠ 0x20) (n : Nat) :
    trimSpaces (padUpper n name) = name.map upperByte := by
  refine trimSpaces_padded (fun c hc => ?_) _
  obtain ⟨b, hb, rfl⟩ := List.mem_map.mp hc
  exact upperByte_ne_space (h b hb)

theorem cpmToHost_padUpper {base ext : List Byte} (hb : base.length ≤ 8) (spaceless : ∀ c ∈ base ++ ext, c ≠ 0x20) :
    cpmToHost (padUpper 8 base ++ padUpper 3 ext) =
      if ext = [] then base.map upperByte else base.map upperByte ++ 0x2E :: ext.map upperByte := by
  obtain ⟨base_ok, ext_ok⟩ := List.forall_mem_append.mp spaceless
  rw [cpmToHost, List.take_left' (padUpper_length hb), List.drop_left' (padUpper_length hb),
    trimSpaces_padUpper base_ok, trimSpaces_padUpper ext_ok]
  cases ext <;> rfl

theorem map_upperByte_eq_self {name : List Byte} : name.map upperByte = name ↔ ∀ c ∈ name, upperByte c = c := by
  simpa using List.map_inj_left (f := upperByte) (g := id) (l := name)

/-! ## O59 -/

/-- Settles O59: the last dot by recursion on the name, and the way back from the padded bytes by their trailing spaces. -/
theorem namesTranslate : Obligations.NamesTranslate := by
  unfold Obligations.NamesTranslate
  intro base ext dotless
  refine ⟨hostToCpm_of_split (by rw [splitLastDot_last_dot base dotless]; rfl), fun hb => ?_, fun hb _ spaceless => ?_⟩
  · have whole : (splitLastDot base).getD (base, []) = (base, []) := by rw [splitLastDot_no_dot hb]; rfl
    simp [hostToCpm_of_split whole]
  have alone : cpmToHost (padUpper 8 base ++ padUpper 3 []) = base.map upperByte :=
    (cpmToHost_padUpper hb fun c hc => spaceless c (List.mem_append_left _ (by simpa using hc))).trans (if_pos rfl)
  have withType (he : ext ≠ []) :
      cpmToHost (padUpper 8 base ++ padUpper 3 ext) = base.map upperByte ++ 0x2E :: ext.map upperByte :=
    (cpmToHost_padUpper hb spaceless).trans (if_neg he)
  refine ⟨withType, alone, fun upper => ?_, ?_⟩
  · obtain ⟨base_upper, ext_upper⟩ := List.forall_mem_append.mp upper
    rw [map_upperByte_eq_self.mpr base_upper, map_upperByte_eq_self.mpr ext_upper] at withType
    rw [map_upperByte_eq_self.mpr base_upper] at alone
    exact ⟨withType, alone⟩
  · rintro ⟨c, hc, lower⟩ he back
    obtain ⟨base_same, rest_same⟩ := List.append_inj ((withType he).symm.trans back) (List.length_map _)
    have ext_same := (List.cons.inj rest_same).2
    exact lower (List.forall_mem_append.mpr
      ⟨map_upperByte_eq_self.mp base_same, map_upperByte_eq_self.mp ext_same⟩ c hc)

end Sys2Proof.Machine

/-! SUPPORT. O60 and O42: the seeded memory (70_reset_and_hazards.md R1602) and the launch (R1601 to R1604, R128). -/

namespace Sys2Proof.Machine

theorem add_ofNat_toNat {a : Word} {k : Nat} (h : a.toNat + k < 65536) : (a + BitVec.ofNat 16 k).toNat = a.toNat + k := by
  rw [BitVec.toNat_add, BitVec.toNat_ofNat]
  omega

/-- An address at or above `a` is `a` and the distance between them. -/
theorem add_ofNat_sub {a b : Word} (h : a.toNat ≤ b.toNat) : a + BitVec.ofNat 16 (b.toNat - a.toNat) = b := by
  have := b.isLt
  exact BitVec.eq_of_toNat_eq ((add_ofNat_toNat (by omega)).trans (by omega))

namespace Memory

/-- A run of bytes that does not wrap leaves every address below it and above it. -/
theorem read_writeBytes_outside (m : Memory) {a b : Word} {vs : List Byte} (top : a.toNat + vs.length ≤ 65536)
    (h : b.toNat < a.toNat ∨ a.toNat + vs.length ≤ b.toNat) : (m.writeBytes a vs).read b = m.read b := by
  refine read_writeBytes_ne m vs fun k hk e => ?_
  rw [e, add_ofNat_toNat (by omega)] at h
  omega

/-- An image in memory, and the bytes around it (R1601). -/
theorem read_image {m : Memory} (hw : m.wf = true) {loadAt : Word} {image : List Byte}
    (top : loadAt.toNat + image.length ≤ 65536) (a : Word) :
    (m.writeBytes loadAt image).read a =
      if loadAt.toNat ≤ a.toNat then image.getD (a.toNat - loadAt.toNat) (m.read a) else m.read a := by
  by_cases above : loadAt.toNat ≤ a.toNat
  case neg => rw [if_neg above, read_writeBytes_outside m top (.inl (not_le.mp above))]
  case pos =>
    rw [if_pos above]
    by_cases within : a.toNat - loadAt.toNat < image.length
    · have read := read_writeBytes hw (a := loadAt) (vs := image) (by omega) within
      rw [add_ofNat_sub above] at read
      simp [read, within]
    · rw [read_writeBytes_outside m top (.inr (by omega))]
      simp [List.getD, List.getElem?_eq_none (not_lt.mp within)]

/-! ## The seeded bytes (R1602, R1380) -/

/-- One slot: `C3` and the slot's own address. -/
def slotBytes (a : Word) : List Byte := [0xC3, lo8 a, hi8 a]

@[simp] theorem slotBytes_length (a : Word) : (slotBytes a).length = 3 := rfl

theorem seedSlots_succ (m : Memory) (base : Word) (n i : Nat) : m.seedSlots base (n + 1) i =
    (m.writeBytes (base + BitVec.ofNat 16 (3 * i)) (slotBytes (base + BitVec.ofNat 16 (3 * i)))).seedSlots base n (i + 1) := rfl

/-- The eight bytes from 0x0000 on. -/
def lowBytes (p : Config.Params) : List Byte :=
  [0xC3, lo8 (p.biosBase + 3), hi8 (p.biosBase + 3), 0x00, 0x00, 0xC3, lo8 p.bdosVector, hi8 p.bdosVector]

@[simp] theorem lowBytes_length (p : Config.Params) : (lowBytes p).length = 8 := rfl

theorem seed_eq (p : Config.Params) (m : Memory) : m.seed p = (m.writeBytes 0 (lowBytes p)).seedSlots p.biosBase 17 0 := rfl

section
variable {base : Word} {n i : Nat}

/-- The slots leave every address outside them. -/
theorem read_seedSlots_outside (m : Memory) (top : base.toNat + 3 * (i + n) ≤ 65536) {b : Word}
    (h : b.toNat < base.toNat + 3 * i ∨ base.toNat + 3 * (i + n) ≤ b.toNat) :
    (m.seedSlots base n i).read b = m.read b := by
  induction n generalizing m i with
  | zero => rfl
  | succ n ih =>
    have place : (base + BitVec.ofNat 16 (3 * i)).toNat = base.toNat + 3 * i := add_ofNat_toNat (by omega)
    rw [seedSlots_succ, ih _ (by omega) (by omega)]
    exact read_writeBytes_outside m (by rw [slotBytes_length]; omega) (by rw [slotBytes_length]; omega)

/-- Each slot holds its three bytes. -/
theorem read_seedSlots_slot {m : Memory} (hw : m.wf = true) (top : base.toNat + 3 * (i + n) ≤ 65536) {k j : Nat}
    (lo : i ≤ k) (hi : k < i + n) (hj : j < 3) :
    (m.seedSlots base n i).read (base + BitVec.ofNat 16 (3 * k) + BitVec.ofNat 16 j) =
      (slotBytes (base + BitVec.ofNat 16 (3 * k)))[j] := by
  induction n generalizing m i with
  | zero => omega
  | succ n ih =>
    rw [seedSlots_succ]
    rcases Nat.eq_or_lt_of_le lo with rfl | lo
    · have place : (base + BitVec.ofNat 16 (3 * i)).toNat = base.toNat + 3 * i := add_ofNat_toNat (by omega)
      rw [read_seedSlots_outside _ (by omega) (.inl (by rw [add_ofNat_toNat (by omega)]; omega))]
      exact read_writeBytes hw (by rw [slotBytes_length]; decide) hj
    · exact ih (writeBytes_wf hw _ _) (by omega) lo (by omega)

end

end Memory

/-! ## The launch (R1601 to R1604) -/

section
variable {s : State} {image : List Byte} {loadAt : Word} (entry : Word)

theorem launchAt_refused (bad : paramsOk s.cfg = false) : launchAt image loadAt entry s = .refused .biosBaseRefused := by
  simp [launchAt, bad]

theorem launchAt_too_large (ok : paramsOk s.cfg = true) (large : 0x10000 < loadAt.toNat + image.length) :
    launchAt image loadAt entry s = .next { s with status := .faulted (.imageTooLarge loadAt image.length) } := by
  simp [launchAt, ok, large, raise, State.setStatus]

/-- The machine a launch that happens starts. -/
def launched (image : List Byte) (loadAt entry : Word) (s : State) : State :=
  { s with cpu := launchCpu entry s.cpu, mem := Memory.seed s.cfg (s.mem.writeBytes loadAt image), amb := Ambient.reset,
           status := .running }

theorem launched_mem (image : List Byte) (loadAt : Word) :
    (launched image loadAt entry s).mem = Memory.seed s.cfg (s.mem.writeBytes loadAt image) := by
  simp only [launched]

theorem launchAt_fits (ok : paramsOk s.cfg = true) (fits : loadAt.toNat + image.length ≤ 0x10000) :
    launchAt image loadAt entry s = .next (launched image loadAt entry s) := by
  simp [launchAt, ok, not_lt.mpr fits, launched]

/-- Outside the slots, a launch leaves what the eight low bytes and the image have left. -/
theorem peek_launched_outside (ok : paramsOk s.cfg = true) {a : Word}
    (h : a.toNat < s.cfg.biosBase.toNat ∨ s.cfg.biosBase.toNat + 51 ≤ a.toNat) :
    (launched image loadAt entry s).peek a =
      ((s.mem.writeBytes loadAt image).writeBytes 0 (Memory.lowBytes s.cfg)).read a := by
  have top := paramsOk_top ok
  rw [State.peek, launched_mem, Memory.seed_eq, Memory.read_seedSlots_outside _ (by omega) (by omega)]

theorem peek_launched_low (ok : paramsOk s.cfg = true) (hw : s.mem.wf = true) {k : Nat}
    (hk : k < 8) {a : Word} (ha : a = BitVec.ofNat 16 k)
    (h : a.toNat < s.cfg.biosBase.toNat ∨ s.cfg.biosBase.toNat + 51 ≤ a.toNat) :
    (launched image loadAt entry s).peek a = (Memory.lowBytes s.cfg)[k] := by
  rw [peek_launched_outside entry ok h, ha, ← BitVec.zero_add (BitVec.ofNat 16 k)]
  exact Memory.read_writeBytes (Memory.writeBytes_wf hw _ _) (vs := Memory.lowBytes s.cfg) (by simp) hk

theorem peek_launched_above (ok : paramsOk s.cfg = true) (hw : s.mem.wf = true)
    (fits : loadAt.toNat + image.length ≤ 0x10000) {a : Word} (above : 8 ≤ a.toNat)
    (h : a.toNat < s.cfg.biosBase.toNat ∨ s.cfg.biosBase.toNat + 51 ≤ a.toNat) :
    (launched image loadAt entry s).peek a =
      if loadAt.toNat ≤ a.toNat then image.getD (a.toNat - loadAt.toNat) (s.peek a) else s.peek a := by
  rw [peek_launched_outside entry ok h, Memory.read_writeBytes_outside _ (by simp) (.inr (by simpa using above))]
  exact Memory.read_image hw fits a

theorem peek_launched_slot (ok : paramsOk s.cfg = true) (hw : s.mem.wf = true) {k : Nat} (hk : k < 17) :
    (launched image loadAt entry s).peek (s.cfg.biosBase + BitVec.ofNat 16 (3 * k)) = 0xC3 ∧
      (launched image loadAt entry s).peek16 (s.cfg.biosBase + BitVec.ofNat 16 (3 * k) + 1) =
        s.cfg.biosBase + BitVec.ofNat 16 (3 * k) := by
  have top := paramsOk_top ok
  generalize slot : s.cfg.biosBase + BitVec.ofNat 16 (3 * k) = a
  have byte {j : Nat} (hj : j < 3) :
      (launched image loadAt entry s).peek (a + BitVec.ofNat 16 j) = (Memory.slotBytes a)[j] := by
    subst slot
    rw [State.peek, launched_mem, Memory.seed_eq]
    exact Memory.read_seedSlots_slot (Memory.writeBytes_wf (Memory.writeBytes_wf hw _ _) _ _) (by omega)
      (Nat.zero_le k) (by omega) hj
  refine ⟨(congrArg _ (BitVec.add_zero a).symm).trans (byte (j := 0) (by decide)), ?_⟩
  have low := byte (j := 1) (by decide)
  have high := byte (j := 2) (by decide)
  rw [← add_one_add_ofNat] at high
  calc (launched image loadAt entry s).peek16 (a + 1) = cat (hi8 a) (lo8 a) := congrArg₂ cat high low
    _ = a := cat_hi8_lo8 a

end

/-! ## O60 and O42 -/

/-- Settles O60: the launch that happens by its three writes to memory, the image, the low bytes and the slots, in that order. -/
theorem launchSeedsMemoryAndRegisters : Obligations.LaunchSeedsMemoryAndRegisters := by
  unfold Obligations.LaunchSeedsMemoryAndRegisters
  intro s image loadAt entry
  refine ⟨launchAt_refused entry, launchAt_too_large entry, fun ok fits hw => ?_⟩
  refine ⟨launched image loadAt entry s, launchAt_fits entry ok fits, rfl, rfl, rfl, rfl, rfl,
    fun k hk => peek_launched_slot entry ok hw hk, ?_, fun a above => peek_launched_above entry ok hw fits above⟩
  have low {k : Nat} := peek_launched_low (image := image) (loadAt := loadAt) entry ok hw (k := k)
  simp only [List.forall_mem_cons]
  exact ⟨low (k := 0) (by decide) rfl, low (k := 1) (by decide) rfl, low (k := 2) (by decide) rfl,
    low (k := 3) (by decide) rfl, low (k := 4) (by decide) rfl, low (k := 5) (by decide) rfl,
    low (k := 6) (by decide) rfl, low (k := 7) (by decide) rfl, fun _ h => (List.not_mem_nil h).elim⟩

theorem launched_inv {s : State} (h : s.Inv) (image : List Byte) (loadAt entry : Word) :
    (launched image loadAt entry s).Inv where
  memory := by
    rw [launched_mem]
    exact Memory.seed_wf (Memory.writeBytes_wf h.memory _ _) _
  handles := rfl
  search := rfl

/-- Settles O42: reset by evaluation, a launch by what its writes keep of memory. -/
theorem resetMeetsTheInvariant : Obligations.ResetMeetsTheInvariant := by
  unfold Obligations.ResetMeetsTheInvariant
  refine ⟨⟨by decide, by decide, by decide⟩, rfl, fun s t image loadAt entry h launch => ?_⟩
  cases ok : paramsOk s.cfg
  case false =>
    rw [launchAt_refused entry ok] at launch
    cases launch
  case true =>
    by_cases fits : loadAt.toNat + image.length ≤ 0x10000
    · rw [launchAt_fits entry ok fits] at launch
      cases launch
      exact launched_inv h image loadAt entry
    · rw [launchAt_too_large entry ok (not_le.mp fits)] at launch
      cases launch
      exact h.setStatus _

end Sys2Proof.Machine
